-- ==== Sys2Proof/Word.lean ====
section
/-! DEFINITION. The word types of SBOXGEN: bytes (field elements, cursors, table entries and indices), the 16-bit command and
response words, and the 3-bit selector `phase` presents to the sequencer (00_scope R5, R7; 30_encoding R46, R47, R52). -/

namespace Sys2Proof

/-- A byte, `W = 8` bits (R5, R7): bit `i` is the coefficient of `x^i`, bit 0 the least significant. -/
abbrev Byte := BitVec 8

/-- A command word or a response word (R46, R47), carried whole on parallel wires (R32). -/
abbrev Word := BitVec 16

/-- The sequencer's 3-bit selector (R52). -/
abbrev Sel := BitVec 3

end Sys2Proof
end

