-- ==== Sys2Proof/Machine/Affine.lean ====
section
/-! DEFINITION. The affine transform pipeline (42_affine_transform): a combinational function of one byte. -/

namespace Sys2Proof.Machine

/-- R86: the 8-bit circular left rotation, toward the more significant bit; `1 ≤ n ≤ 7`. -/
def rotl8 (v : Byte) (n : Nat) : Byte := (v <<< n) ||| (v >>> (8 - n))

/-- R5, R85: the fixed Rijndael affine constant `C_AFF`. -/
def affineConstant : Byte := 0x63

/-- R85: `AFF(v)`. -/
def affine (v : Byte) : Byte := v ^^^ rotl8 v 1 ^^^ rotl8 v 2 ^^^ rotl8 v 3 ^^^ rotl8 v 4 ^^^ affineConstant

end Sys2Proof.Machine
end

