-- ==== Sys2Proof/Config.lean ====
section
/-! DEFINITION. What the spec leaves open (00_scope R6, 92_eei_decisions "Open parameters"): the bytes that are unspecified after
a reset event, and the surroundings' choices past what a state lists of them. Each is a constant WITHOUT A BODY: nothing can be
proved of its value. The third open parameter, the collaborator `GF`, is data of the state (log 1). -/

namespace Sys2Proof

/-- The agents of rule R9. -/
inductive Agent where
  | seq    -- the sequencer
  | host   -- the consumer on the command port
  | reset  -- the reset input `rst`
  deriving DecidableEq, Repr, Inhabited

/-- The places that hold an unspecified byte after a reset event (R29). -/
inductive Place where
  | p
  | q
  | sbox (i : Byte)
  | sboxInverse (i : Byte)
  deriving DecidableEq, Repr

/-- The byte a place holds after the reset event number `epoch`, until something writes it: any byte, not necessarily the same
after each reset (R29, R130, U1, U2). DESIGN CHOICE, log 5 and log 6. -/
opaque Config.unspecified : Nat → Place → Byte

/-- Whose turn the step number `tick` is, when the state lists no turn (R9: any interleaving). DESIGN CHOICE, log 2. -/
opaque Config.turn : Nat → Agent

/-- The command word the consumer presents in the step number `tick`, when the state lists none (R142: any 16-bit word at any
time). DESIGN CHOICE, log 3. -/
opaque Config.command : Nat → Word

end Sys2Proof
end

