-- ==== Sys2Proof/Syntax.lean ====
section
/-! DEFINITION. The operations of SBOXGEN, one constructor per row of spec/opcode_table.json (30_encoding R48, R50, R52, R57,
R58). An ignored `idx` is kept as an operand so that no bit of a command word is lost. -/

namespace Sys2Proof

/-- The rows of the opcode table, in its order. -/
inductive Instr where
  -- format CMD (R48)
  | nop  (idx : Byte)
  | gen  (idx : Byte)
  | rds  (idx : Byte)
  | rdi  (idx : Byte)
  | stat (idx : Byte)
  -- format RSV (R50): `opc` is the reserved operation code, in the row's range
  | rsvd05   (idx : Byte)
  | rsvd0607 (opc idx : Byte)
  | rsvd080F (opc idx : Byte)
  | rsvd101F (opc idx : Byte)
  | rsvd203F (opc idx : Byte)
  | rsvd407F (opc idx : Byte)
  | rsvd80FF (opc idx : Byte)
  -- format SEQ (R52)
  | step
  | fixzero
  -- format SUB (R58): parts of GEN (`init`) and of STEP (the others); no selector of their own
  | init
  | advp
  | advq
  | aff
  | record  -- the row REC
  | loopt
  -- format PSEUDO (R57)
  | waitrdy
  deriving DecidableEq, Repr

end Sys2Proof
end

