-- ==== Sys2Proof/Machine/State.lean ====
section
/-! DEFINITION. The state of SBOXGEN is `Block` (10_state R10, R15, R29). `State` puts beside it the arguments that rule R6 gives
a model (`Surroundings`) and the values that stand on wires within one step (`Wires`), because the host's interface hands a step
nothing but a state and takes nothing else back. -/

namespace Sys2Proof.Machine

/-- R15: the five legal values of the control state (R53: a state type does not contain the other three codes). -/
inductive Phase where
  | idle      -- `0b000`
  | armed     -- `0b001`
  | cycling   -- `0b011`
  | fixup     -- `0b010`
  | complete  -- `0b110`
  deriving DecidableEq, Repr, Inhabited

/-- R6, R66: the collaborator, a pair of total functions, as plain data. -/
inductive GF where
  /-- `GFref`, the arithmetic of the field (R63, R64): the default. -/
  | ref
  /-- Any other pair of functions: `mulBy3` by its 256 results, `mul` by its 256 rows of 256 results. -/
  | tables (mulBy3 : Vector Byte 256) (mul : Vector (Vector Byte 256) 256)
  deriving DecidableEq, Repr

/-- What the consumer does at one turn: presents a raw command word, or pursues the pseudo-instruction `WAITRDY` (R57). -/
inductive HostItem where
  | word (w : Word)
  | waitRdy
  deriving DecidableEq, Repr

/-- One table (R19, R20, R30): the entries that hold a value, as (index, byte), indices strictly rising and below 256. An entry
that is not listed holds no value (R23). -/
abbrev Table := List Host.Cell

/-- R10: the whole state of the block, these five items and nothing else. -/
structure Block where
  /-- The forward cursor (R12). -/
  p : Byte
  /-- The backward cursor (R13). -/
  q : Byte
  /-- The control state (R15). -/
  phase : Phase
  /-- The forward table (R19). -/
  sbox : Table
  /-- The inverse table (R20). -/
  sboxInverse : Table
  deriving DecidableEq, Repr

/-- R6: the arguments of the model (the collaborator, the schedule, the draws) and what the consumer presents (R45, R142). None
of it is state of the block. -/
structure Surroundings where
  /-- The collaborator (R6); no step writes it (R24). Log 1. -/
  gf : GF
  /-- Whose turns come next (R9). Log 2. -/
  turns : List Agent
  /-- What the consumer presents next. Log 3. -/
  cmds : List HostItem
  /-- The number of reset events after the first; it tells the draws of one reset from those of another. Log 5. -/
  epoch : Nat
  /-- The number of steps taken; it tells the free turns and words apart. Log 2. -/
  tick : Nat
  deriving DecidableEq, Repr

/-- Values on wires. They are no state (R24, R85): each step clears them before it does anything else, and none reads what an
earlier step left. -/
structure Wires where
  /-- The word on the port `rsp` in this step (R45, R47). Log 4. -/
  rsp : Option Word
  /-- The value `a` on its way from AFF to REC inside this STEP (R76, R85). Log 7. -/
  aff : Option Byte
  deriving DecidableEq, Repr

/-- What a step of the model maps: the block, and beside it the model's arguments and wires. That the block and the arguments
alone decide a step is the obligation NoMemoryOfPastCommands. -/
structure State extends Block, Surroundings, Wires where
  deriving DecidableEq, Repr

/-- The hardware raises no exception, trap or fault: the list of causes is empty (R116). -/
inductive Fault where
  deriving DecidableEq, Repr

/-- Why the model gives no next state. -/
inductive Refusal where
  /-- Raised by `exec` for an instruction without a meaning; no arm raises it. Safe. -/
  | notModelled (mnemonic : String)
  /-- Raised by the meanings of STEP and FIXZERO where the phase is not one that selects them, so that their `require` fails
  (R76, R95) and SEQ has no such step (R52). `step` never raises it. Safe: no behaviour is claimed. Log 9. -/
  | notEnabled
  deriving DecidableEq, Repr

/-- Just after the first reset event (R29, R131): `phase` is `IDLE`; the cursors are unspecified, each a free value; no table
entry holds a value; the collaborator is the default. -/
def State.reset : State where
  p := Config.unspecified 0 .p
  q := Config.unspecified 0 .q
  phase := .idle
  sbox := []
  sboxInverse := []
  gf := .ref
  turns := []
  cmds := []
  rsp := none
  aff := none
  epoch := 0
  tick := 0

end Sys2Proof.Machine
end

