-- ==== Sys2Proof/Machine/Field.lean ====
section
/-! DEFINITION. The Galois-field arithmetic the block is given (40_gf_arithmetic): the reference functions of the field with
polynomial x^8+x^4+x^3+x+1, and the collaborator of a state, which need not agree with them (R66, R84). -/

namespace Sys2Proof.Machine

/-- R62: multiplication by `x`. -/
def xtime (a : Byte) : Byte := (a <<< 1) ^^^ (if a.getLsbD 7 then 0x1B#8 else 0x00#8)

/-- One pass of the loop of R63: `r` collects the product, `a` is the multiplicand times `x^i`. -/
def mulRound (b : Byte) (acc : Byte × Byte) (i : Nat) : Byte × Byte :=
  (if b.getLsbD i then acc.1 ^^^ acc.2 else acc.1, xtime acc.2)

/-- R63: `GFref.mul`, the product by shift and add. -/
def refMul (a b : Byte) : Byte := ([0, 1, 2, 3, 4, 5, 6, 7].foldl (mulRound b) (0x00#8, a)).1

/-- R64: `GFref.mulBy3`. -/
def refMulBy3 (a : Byte) : Byte := xtime a ^^^ a

/-- R64: the collaborator's `mulBy3`. -/
def gfMulBy3 : GF → Byte → Byte
  | .ref, a => refMulBy3 a
  | .tables m3 _, a => m3[a.toNat]'a.isLt

/-- R63: the collaborator's `mul`. -/
def gfMul : GF → Byte → Byte → Byte
  | .ref, a, b => refMul a b
  | .tables _ m, a, b => (m[a.toNat]'a.isLt)[b.toNat]'b.isLt

end Sys2Proof.Machine
end

