-- ==== Sys2Proof/Machine/Flags.lean ====
section
/-! DEFINITION. SBOXGEN has no flags or condition codes (10_state R26). What stands here instead: the encoding and the fields of
`phase` (R15, R16), the `ready` level (R18), and the status codes and response words (30_encoding R47, R49). -/

namespace Sys2Proof.Machine

/-- R15: the 3-bit code of a phase. -/
def phaseBits : Phase → Sel
  | .idle     => 0b000#3
  | .armed    => 0b001#3
  | .cycling  => 0b011#3
  | .fixup    => 0b010#3
  | .complete => 0b110#3

/-- The phase a code stands for; `0b100`, `0b101`, `0b111` stand for none (R53). -/
def phaseOfBits (b : Sel) : Option Phase :=
  if b = 0b000#3 then some .idle
  else if b = 0b001#3 then some .armed
  else if b = 0b011#3 then some .cycling
  else if b = 0b010#3 then some .fixup
  else if b = 0b110#3 then some .complete
  else none

/-- R16: `phase[0]`, the main loop is running. -/
def walkBit (ph : Phase) : Bool := (phaseBits ph).getLsbD 0

/-- R16: `phase[1]`, at least one advance has been made since GEN. -/
def advBit (ph : Phase) : Bool := (phaseBits ph).getLsbD 1

/-- R16: `phase[2]`, the tables are final and published. -/
def rdyBit (ph : Phase) : Bool := (phaseBits ph).getLsbD 2

/-- R47: `zext_8(phase)`, the data byte of STAT and GEN. -/
def phaseByte (ph : Phase) : Byte := (phaseBits ph).setWidth 8

/-- R49: the status codes. -/
inductive Status where
  | ok
  | notReady
  | illegal
  deriving DecidableEq, Repr

/-- R49: the code of a status. -/
def statusCode : Status → Byte
  | .ok       => 0x00
  | .notReady => 0x01
  | .illegal  => 0x02

/-- R47: the response word `{st, data}`. -/
def responseWord (st : Status) (data : Byte) : Word := statusCode st ++ data

/-- R47: `rsp[15:8]`. -/
def statusOf (rsp : Word) : Byte := rsp.extractLsb' 8 8

/-- R47: `rsp[7:0]`. -/
def dataOf (rsp : Word) : Byte := rsp.extractLsb' 0 8

end Sys2Proof.Machine
end

