-- ==== Sys2Proof/Machine/Operands.lean ====
section
/-! DEFINITION. The one addressing form, direct by a byte index (20_memory R31), on a table kept in canonical form; and the
constants wired into the operations (30_encoding R54). -/

namespace Sys2Proof.Machine

/-- R5: `ONE`, the start and end value of the cursor `p` (INIT, LOOPT). -/
def constOne : Byte := 0x01

/-- R5: `GINV`, the inverse of 3, the constant of ADVQ. -/
def constGinv : Byte := 0xF6

/-- R54: the index of `SBOX` that FIXZERO writes, and the value it writes in `SBOX_INVERSE`. -/
def constZero : Byte := 0x00

/-- R54: the value FIXZERO writes in `SBOX`, and the index it writes in `SBOX_INVERSE`; a constant, not a computed `AFF(0x00)`
(R95). -/
def constFix : Byte := 0x63

/-- What an entry that is not listed holds: no value (R23). -/
def unlisted : Option Byte := none

/-- The value listed for an address. -/
def lookupCell : Table → Nat → Option Byte
  | [], _ => unlisted
  | c :: t, a => if c.1 = a then some c.2 else lookupCell t a

/-- Lists a value for an address, in address order, in place of any earlier value. -/
def insertCell : Table → Nat → Byte → Table
  | [], a, v => [(a, v)]
  | c :: t, a, v =>
    if a < c.1 then (a, v) :: c :: t
    else if c.1 = a then (a, v) :: t
    else c :: insertCell t a v

/-- `MemRead(space, i, 1)` (R8, R31, R34): the value of entry `i`, none if no step has written it since reset. -/
def readTable (t : Table) (i : Byte) : Option Byte := lookupCell t i.toNat

/-- `MemWrite(space, i, 1, v)` (R8, R31, R34): the whole entry is replaced. -/
def writeTable (t : Table) (i v : Byte) : Table := insertCell t i.toNat v

/-- The canonical form of a table: indices strictly rising (so none twice), every one a byte's (R31). -/
abbrev tableWf (t : Table) : Prop := t.Pairwise (fun a b => a.1 < b.1) ∧ ∀ c ∈ t, c.1 < 256

end Sys2Proof.Machine
end

