-- ==== Sys2Proof/Machine/Ports.lean ====
section
/-! DEFINITION. The ports (30_encoding R45). `cmd` and `rst` are the surroundings' moves (`cmds`, `turns`), `rsp` is a field of
the state; the others are functions of the state. -/

namespace Sys2Proof.Machine

/-- R18: the output `ready`, a level equal to `phase[2]`. -/
def ready (s : State) : Bool := rdyBit s.phase

/-- R45: the argument presented to the collaborator's `mulBy3`, which R136 states for a STEP. DESIGN CHOICE, log 18: the port
carries `p` in every phase; the spec does not say what it carries outside a STEP. -/
def gf3X (s : State) : Byte := s.p

/-- R45: its result. -/
def gf3Y (s : State) : Byte := gfMulBy3 s.gf (gf3X s)

/-- R45: the first argument presented to the collaborator's `mul`, which R136 states for a STEP. DESIGN CHOICE, log 18: the port
carries `q` in every phase; the spec does not say what it carries outside a STEP. -/
def gfmA (s : State) : Byte := s.q

/-- R45: the second argument, always `0xF6`. -/
def gfmB (_ : State) : Byte := constGinv

/-- R45: its result. -/
def gfmY (s : State) : Byte := gfMul s.gf (gfmA s) (gfmB s)

end Sys2Proof.Machine
end

