-- ==== Sys2Proof/Machine/Ops.lean ====
section
/-! DEFINITION. The named operations over the state that the meanings are made of: the published read, the response, the parts
of GEN and of STEP, and the reset event. There is no operation that takes an exception and none that returns from one: the
hardware has neither (60_exceptions R116, R121, R122); a refused command is an ordinary response (R117). -/

namespace Sys2Proof.Machine

/-- The result type of a meaning. -/
abbrev Result := Host.Outcome State Fault Refusal

/-- Performs a second operation on the state the first one leaves; a stop stays a stop. -/
def andThen (r : Result) (f : State → Result) : Result :=
  match r with
  | .next s    => f s
  | .fault e   => .fault e
  | .refused e => .refused e

/-- The byte a published read of `SBOX[i]` returns: the entry, or, where no step has written it since reset (possible only
with a non-conforming collaborator: R84, R138, U3), the free value of that entry. -/
def publishedSbox (s : State) (i : Byte) : Byte :=
  (readTable s.sbox i).getD (Config.unspecified s.epoch (.sbox i))

/-- The same for `SBOX_INVERSE[i]`. -/
def publishedSboxInverse (s : State) (i : Byte) : Byte :=
  (readTable s.sboxInverse i).getD (Config.unspecified s.epoch (.sboxInverse i))

/-- `respond(st, data)` (R8, R47). -/
def respond (s : State) (st : Status) (data : Byte) : State := { s with rsp := some (responseWord st data) }

/-- R50, R109: the answer to a reserved command. -/
def respondIllegal (s : State) : State := respond s .illegal 0x00

/-- INIT (R71). -/
def opInit (s : State) : State := { s with p := constOne, q := constOne }

/-- ADVP (R72): step 2a. -/
def opAdvp (s : State) : State := { s with p := gf3Y s }

/-- ADVQ (R73): step 2b. -/
def opAdvq (s : State) : State := { s with q := gfmY s }

/-- AFF (R85): step 2c, on the new `q`. -/
def opAff (s : State) : State := { s with aff := some (affine s.q) }

/-- The operand `a` of REC (R93): what AFF put out in this STEP. The transform is combinational in `q` (R88), so where AFF was
not performed as an operation of its own, it is `AFF(q)`. Log 8. -/
def affOperand (s : State) : Byte := s.aff.getD (affine s.q)

/-- REC (R93): step 2d, on the new `p`; `a` is kept no longer. -/
def opRec (s : State) : State :=
  { s with
    sbox := writeTable s.sbox s.p (affOperand s)
    sboxInverse := writeTable s.sboxInverse (affOperand s) s.p
    aff := none }

/-- LOOPT (R75): the test at the bottom of the loop, on the new `p`. -/
def opLoopt (s : State) : State := { s with phase := if s.p = constOne then .fixup else .cycling }

/-- The two writes of FIXZERO and its change of phase (R95). -/
def opFixzero (s : State) : State :=
  { s with
    sbox := writeTable s.sbox constZero constFix
    sboxInverse := writeTable s.sboxInverse constFix constZero
    phase := .complete }

/-- STAT's response (R108). -/
def opStat (s : State) : State := respond s .ok (phaseByte s.phase)

/-- The reset event (R29, R130): `phase` is `IDLE`; each cursor is a free value of this reset; no table entry holds a value.
The collaborator and the surroundings' moves are not the block's. Log 5, log 6, log 13. -/
def opReset (s : State) : State :=
  { s with
    p := Config.unspecified (s.epoch + 1) .p
    q := Config.unspecified (s.epoch + 1) .q
    phase := .idle
    sbox := []
    sboxInverse := []
    rsp := none
    aff := none
    epoch := s.epoch + 1 }

end Sys2Proof.Machine
end

