-- ==== Sys2Proof/Machine/HostCommands.lean ====
section
/-! DEFINITION. The meanings of the host commands (44_host_commands). Every command is answered in every phase (R103). -/

namespace Sys2Proof.Machine

/-- NOP (R104). -/
def execNop (_idx : Byte) (s : State) : Result := .next (respond s .ok 0x00)

/-- GEN (R105): in `IDLE` INIT and `phase <- ARMED`; otherwise nothing changes. The data byte is the phase after it. -/
def execGen (_idx : Byte) (s : State) : Result :=
  if s.phase = .idle then .next (opStat { opInit s with phase := .armed }) else .next (opStat s)

/-- RDS (R106). -/
def execRds (idx : Byte) (s : State) : Result :=
  if s.phase = .complete then .next (respond s .ok (publishedSbox s idx)) else .next (respond s .notReady 0x00)

/-- RDI (R107). -/
def execRdi (idx : Byte) (s : State) : Result :=
  if s.phase = .complete then .next (respond s .ok (publishedSboxInverse s idx)) else .next (respond s .notReady 0x00)

/-- STAT (R108). -/
def execStat (_idx : Byte) (s : State) : Result := .next (opStat s)

end Sys2Proof.Machine
end

