-- ==== Sys2Proof/Machine/Pseudo.lean ====
section
/-! DEFINITION. The meaning of the pseudo-instruction WAITRDY (30_encoding R57). -/

namespace Sys2Proof.Machine

/-- R57: the response that ends `WAITRDY`. -/
def readyResponse : Word := 0x0006

/-- WAITRDY (R57): one `STAT`; unless the response is `0x0006` the consumer issues it again at its next turn. Log 11. -/
def execWaitrdy (s : State) : Result :=
  let t := opStat s
  if t.rsp = some readyResponse then .next t else .next { t with cmds := .waitRdy :: t.cmds }

end Sys2Proof.Machine
end

