-- ==== Sys2Proof/Machine/Reserved.lean ====
section
/-! DEFINITION. The meanings of the seven reserved rows (30_encoding R50; 44_host_commands R109). -/

namespace Sys2Proof.Machine

/-- RSVD_05 (R109). -/
def execRsvd05 (_idx : Byte) (s : State) : Result := .next (respondIllegal s)

/-- RSVD_06_07 (R109). -/
def execRsvd0607 (_opc _idx : Byte) (s : State) : Result := .next (respondIllegal s)

/-- RSVD_08_0F (R109). -/
def execRsvd080F (_opc _idx : Byte) (s : State) : Result := .next (respondIllegal s)

/-- RSVD_10_1F (R109). -/
def execRsvd101F (_opc _idx : Byte) (s : State) : Result := .next (respondIllegal s)

/-- RSVD_20_3F (R109). -/
def execRsvd203F (_opc _idx : Byte) (s : State) : Result := .next (respondIllegal s)

/-- RSVD_40_7F (R109). -/
def execRsvd407F (_opc _idx : Byte) (s : State) : Result := .next (respondIllegal s)

/-- RSVD_80_FF (R109). -/
def execRsvd80FF (_opc _idx : Byte) (s : State) : Result := .next (respondIllegal s)

end Sys2Proof.Machine
end

