-- ==== Sys2Proof/Machine/Sequencer.lean ====
section
/-! DEFINITION. The meanings of the sequencer's two micro-operations (41_generator_cycle R76; 43_table_recorder R95). -/

namespace Sys2Proof.Machine

/-- R52: STEP is selected when `phase & 0b101 == 0b001`. -/
def stepEnabled (ph : Phase) : Bool := phaseBits ph &&& 0b101#3 == 0b001#3

/-- R52: FIXZERO is selected when `phase == 0b010`. -/
def fixzeroEnabled (ph : Phase) : Bool := phaseBits ph == 0b010#3

/-- STEP (R58, R76): ADVP, ADVQ, AFF, REC, LOOPT in that order, as one atomic step. -/
def execStep (s : State) : Result :=
  if stepEnabled s.phase then .next (opLoopt (opRec (opAff (opAdvq (opAdvp s))))) else .refused .notEnabled

/-- FIXZERO (R95). -/
def execFixzero (s : State) : Result :=
  if fixzeroEnabled s.phase then .next (opFixzero s) else .refused .notEnabled

end Sys2Proof.Machine
end

