-- ==== Sys2Proof/Machine/SubOperations.lean ====
section
/-! DEFINITION. The meanings of the sub-operations (30_encoding R58), each as it acts inside the operation it is part of. No
selector selects one alone, so `step` performs them only as parts of GEN and STEP. -/

namespace Sys2Proof.Machine

/-- INIT (R71), part of GEN. -/
def execInit (s : State) : Result := .next (opInit s)

/-- ADVP (R72), part of STEP. -/
def execAdvp (s : State) : Result := .next (opAdvp s)

/-- ADVQ (R73), part of STEP. -/
def execAdvq (s : State) : Result := .next (opAdvq s)

/-- AFF (R85), part of STEP. -/
def execAff (s : State) : Result := .next (opAff s)

/-- REC (R93), part of STEP. -/
def execRec (s : State) : Result := .next (opRec s)

/-- LOOPT (R75), part of STEP. -/
def execLoopt (s : State) : Result := .next (opLoopt s)

end Sys2Proof.Machine
end

