-- ==== Sys2Proof/Machine/Dispatch.lean ====
section
/-! DEFINITION. One arm per operation, each a direct call of its meaning. -/

namespace Sys2Proof.Machine

def exec (i : Instr) (s : State) : Host.Outcome State Fault Refusal :=
  match i with
  | .nop idx => Sys2Proof.Machine.execNop idx s
  | .gen idx => Sys2Proof.Machine.execGen idx s
  | .rds idx => Sys2Proof.Machine.execRds idx s
  | .rdi idx => Sys2Proof.Machine.execRdi idx s
  | .stat idx => Sys2Proof.Machine.execStat idx s
  | .rsvd05 idx => Sys2Proof.Machine.execRsvd05 idx s
  | .rsvd0607 opc idx => Sys2Proof.Machine.execRsvd0607 opc idx s
  | .rsvd080F opc idx => Sys2Proof.Machine.execRsvd080F opc idx s
  | .rsvd101F opc idx => Sys2Proof.Machine.execRsvd101F opc idx s
  | .rsvd203F opc idx => Sys2Proof.Machine.execRsvd203F opc idx s
  | .rsvd407F opc idx => Sys2Proof.Machine.execRsvd407F opc idx s
  | .rsvd80FF opc idx => Sys2Proof.Machine.execRsvd80FF opc idx s
  | .step => Sys2Proof.Machine.execStep s
  | .fixzero => Sys2Proof.Machine.execFixzero s
  | .init => Sys2Proof.Machine.execInit s
  | .advp => Sys2Proof.Machine.execAdvp s
  | .advq => Sys2Proof.Machine.execAdvq s
  | .aff => Sys2Proof.Machine.execAff s
  | .record => Sys2Proof.Machine.execRec s
  | .loopt => Sys2Proof.Machine.execLoopt s
  | .waitrdy => Sys2Proof.Machine.execWaitrdy s

end Sys2Proof.Machine
end

