-- ==== Sys2Proof/WellFormed.lean ====
section
/-! DEFINITION. Which terms of `Instr` are operations of the block: a reserved row's operation code lies in that row's range
(30_encoding R50). Every other operand may take any value (R31, R51). -/

namespace Sys2Proof

/-- `opc` lies in the range `lo .. hi` of a reserved row. -/
def inRange (lo hi opc : Byte) : Bool := lo.toNat ≤ opc.toNat && opc.toNat ≤ hi.toNat

/-- R50: the seven ranges of reserved operation codes. -/
def Instr.wellFormed : Instr → Bool
  | .rsvd0607 opc _ => inRange 0x06 0x07 opc
  | .rsvd080F opc _ => inRange 0x08 0x0F opc
  | .rsvd101F opc _ => inRange 0x10 0x1F opc
  | .rsvd203F opc _ => inRange 0x20 0x3F opc
  | .rsvd407F opc _ => inRange 0x40 0x7F opc
  | .rsvd80FF opc _ => inRange 0x80 0xFF opc
  | .nop _ | .gen _ | .rds _ | .rdi _ | .stat _ | .rsvd05 _ => true
  | .step | .fixzero | .init | .advp | .advq | .aff | .record | .loopt | .waitrdy => true

end Sys2Proof
end

