-- ==== Sys2Proof/Decode.lean ====
section
/-! DEFINITION. Decoding and encoding (30_encoding R46, R48, R50 to R52, R56, R58; 44_host_commands R112). There are two
selectors: the 16-bit command word for HOST and the 3-bit `phase` for SEQ. Rows of format SUB and PSEUDO have no selector of
their own and a decoder skips them (R57, R58). The spec's table as data stands at the end. -/

namespace Sys2Proof

/-- What selects an operation: a command word, or the sequencer's selector. -/
inductive Selector where
  | cmd (w : Word)
  | seq (sel : Sel)
  deriving DecidableEq, Repr

/-- Why a selector selects nothing. -/
inductive DecodeError where
  /-- `phase` is `IDLE` or `COMPLETE`: SEQ has no micro-operation (R52). -/
  | seqIdle
  /-- The phase codes `0b100`, `0b101`, `0b111`, to which the spec gives no behaviour (R53). -/
  | illegalPhase
  deriving DecidableEq, Repr

/-- `cmd[15:8]` (R46). -/
def opcOf (w : Word) : Byte := w.extractLsb' 8 8

/-- `cmd[7:0]` (R46). -/
def idxOf (w : Word) : Byte := w.extractLsb' 0 8

/-- The command word `{opc, idx}` (R46). -/
def commandWord (opc idx : Byte) : Word := opc ++ idx

/-- R50: the reserved row an operation code from 0x05 on belongs to. -/
def decodeReserved (opc idx : Byte) : Instr :=
  if opc.toNat ≤ 0x05 then .rsvd05 idx
  else if opc.toNat ≤ 0x07 then .rsvd0607 opc idx
  else if opc.toNat ≤ 0x0F then .rsvd080F opc idx
  else if opc.toNat ≤ 0x1F then .rsvd101F opc idx
  else if opc.toNat ≤ 0x3F then .rsvd203F opc idx
  else if opc.toNat ≤ 0x7F then .rsvd407F opc idx
  else .rsvd80FF opc idx

/-- R112: decoding a command word is total. -/
def decodeCmd (w : Word) : Instr :=
  let opc := opcOf w
  let idx := idxOf w
  if opc = 0x00 then .nop idx
  else if opc = 0x01 then .gen idx
  else if opc = 0x02 then .rds idx
  else if opc = 0x03 then .rdi idx
  else if opc = 0x04 then .stat idx
  else decodeReserved opc idx

/-- R52, R53: the micro-operation a value of `phase` selects. -/
def decodeSeq (sel : Sel) : Except DecodeError Instr :=
  if sel &&& 0b101#3 = 0b001#3 then .ok .step
  else if sel = 0b010#3 then .ok .fixzero
  else if sel = 0b000#3 ∨ sel = 0b110#3 then .error .seqIdle
  else .error .illegalPhase

/-- The operation a selector selects, or the named reason why it selects none. -/
def decode : Selector → Except DecodeError Instr
  | .cmd w   => .ok (decodeCmd w)
  | .seq sel => decodeSeq sel

/-- The selector of an operation (R48, R50, R52). STEP has two, `ARMED` and `CYCLING`; the first is given. A sub-operation or
the pseudo-instruction has none of its own (R57, R58). -/
def encode : Instr → Option Selector
  | .nop idx          => some (.cmd (commandWord 0x00 idx))
  | .gen idx          => some (.cmd (commandWord 0x01 idx))
  | .rds idx          => some (.cmd (commandWord 0x02 idx))
  | .rdi idx          => some (.cmd (commandWord 0x03 idx))
  | .stat idx         => some (.cmd (commandWord 0x04 idx))
  | .rsvd05 idx       => some (.cmd (commandWord 0x05 idx))
  | .rsvd0607 opc idx => some (.cmd (commandWord opc idx))
  | .rsvd080F opc idx => some (.cmd (commandWord opc idx))
  | .rsvd101F opc idx => some (.cmd (commandWord opc idx))
  | .rsvd203F opc idx => some (.cmd (commandWord opc idx))
  | .rsvd407F opc idx => some (.cmd (commandWord opc idx))
  | .rsvd80FF opc idx => some (.cmd (commandWord opc idx))
  | .step             => some (.seq 0b001#3)
  | .fixzero          => some (.seq 0b010#3)
  | .init | .advp | .advq | .aff | .record | .loopt | .waitrdy => none

/-- The word the assembler emits (R51, R56): `idx = 0x00` where it is ignored; `.word` gives a reserved word as it stands; for
`WAITRDY` the word of the `STAT` it is made of (R57). SEQ's operations are never written in a program. -/
def assemble : Instr → Option Word
  | .nop _   => some 0x0000
  | .gen _   => some 0x0100
  | .rds idx => some (0x0200 ||| idx.setWidth 16)
  | .rdi idx => some (0x0300 ||| idx.setWidth 16)
  | .stat _  => some 0x0400
  | .rsvd05 idx       => some (commandWord 0x05 idx)
  | .rsvd0607 opc idx => some (commandWord opc idx)
  | .rsvd080F opc idx => some (commandWord opc idx)
  | .rsvd101F opc idx => some (commandWord opc idx)
  | .rsvd203F opc idx => some (commandWord opc idx)
  | .rsvd407F opc idx => some (commandWord opc idx)
  | .rsvd80FF opc idx => some (commandWord opc idx)
  | .waitrdy => some 0x0400
  | .step | .fixzero | .init | .advp | .advq | .aff | .record | .loopt => none

/-- The operation the decoder reads from a table row's bits `w`, `nbits` of them in whole bytes: up to one byte is the
sequencer's 3-bit selector (the rows of width 3), two bytes a command word; no row is longer (R55). Log 15. -/
def decodeTableWord (nbits w : Nat) : Option Instr :=
  if nbits ≤ 8 then
    match decodeSeq (BitVec.ofNat 3 w) with
    | .ok i => some i
    | .error _ => none
  else if nbits ≤ 16 then some (decodeCmd (BitVec.ofNat 16 w))
  else none

/-- The formats of the opcode table. -/
inductive Format where
  | cmd | rsv | seq | sub | pseudo
  deriving DecidableEq, Repr

/-- One row of the opcode table: a selector value `v` selects the row when `v & mask == pattern` (R48, R52). -/
structure Row where
  mnemonic : String
  format   : Format
  width    : Nat
  pattern  : Word
  mask     : Word
  deriving DecidableEq, Repr

/-- R48, R50: the rows that the command word selects. -/
def commandRows : List Row :=
  [ ⟨"NOP",  .cmd, 16, 0x0000, 0xFF00⟩, ⟨"GEN",  .cmd, 16, 0x0100, 0xFF00⟩, ⟨"RDS",  .cmd, 16, 0x0200, 0xFF00⟩,
    ⟨"RDI",  .cmd, 16, 0x0300, 0xFF00⟩, ⟨"STAT", .cmd, 16, 0x0400, 0xFF00⟩,
    ⟨"RSVD_05",    .rsv, 16, 0x0500, 0xFF00⟩, ⟨"RSVD_06_07", .rsv, 16, 0x0600, 0xFE00⟩,
    ⟨"RSVD_08_0F", .rsv, 16, 0x0800, 0xF800⟩, ⟨"RSVD_10_1F", .rsv, 16, 0x1000, 0xF000⟩,
    ⟨"RSVD_20_3F", .rsv, 16, 0x2000, 0xE000⟩, ⟨"RSVD_40_7F", .rsv, 16, 0x4000, 0xC000⟩,
    ⟨"RSVD_80_FF", .rsv, 16, 0x8000, 0x8000⟩ ]

/-- R52: the rows that `phase` selects. -/
def sequencerRows : List Row :=
  [ ⟨"STEP", .seq, 3, 0b001, 0b101⟩, ⟨"FIXZERO", .seq, 3, 0b010, 0b111⟩ ]

/-- R57, R58: the rows a decoder skips; they carry the selector of the operation they belong to. -/
def skippedRows : List Row :=
  [ ⟨"INIT", .sub, 16, 0x0100, 0xFF00⟩, ⟨"ADVP", .sub, 3, 0b001, 0b101⟩, ⟨"ADVQ", .sub, 3, 0b001, 0b101⟩,
    ⟨"AFF", .sub, 3, 0b001, 0b101⟩, ⟨"REC", .sub, 3, 0b001, 0b101⟩, ⟨"LOOPT", .sub, 3, 0b001, 0b101⟩,
    ⟨"WAITRDY", .pseudo, 16, 0x0400, 0xFF00⟩ ]

/-- Whether a selector's value matches a row. -/
def rowSelects (r : Row) : Selector → Bool
  | .cmd w   => r.width == 16 && w &&& r.mask == r.pattern
  | .seq sel => r.width == 3 && sel.setWidth 16 &&& r.mask == r.pattern

/-- The mnemonic of an operation's row. -/
def mnemonicOf : Instr → String
  | .nop _ => "NOP" | .gen _ => "GEN" | .rds _ => "RDS" | .rdi _ => "RDI" | .stat _ => "STAT"
  | .rsvd05 _ => "RSVD_05" | .rsvd0607 _ _ => "RSVD_06_07" | .rsvd080F _ _ => "RSVD_08_0F" | .rsvd101F _ _ => "RSVD_10_1F"
  | .rsvd203F _ _ => "RSVD_20_3F" | .rsvd407F _ _ => "RSVD_40_7F" | .rsvd80FF _ _ => "RSVD_80_FF"
  | .step => "STEP" | .fixzero => "FIXZERO" | .init => "INIT" | .advp => "ADVP" | .advq => "ADVQ" | .aff => "AFF"
  | .record => "REC" | .loopt => "LOOPT" | .waitrdy => "WAITRDY"

end Sys2Proof
end

