-- ==== Sys2Proof/Machine/Fetch.lean ====
section
/-! DEFINITION. What the next step does (00_scope R9): whose turn it is, and what that agent performs. SEQ's operation is selected
by `phase` alone (30_encoding R52); HOST's is the command it presents (44_host_commands R103, R112). -/

namespace Sys2Proof.Machine

/-- Whose turn it is: the first turn listed, else a free one (log 2). -/
def nextAgent (s : State) : Agent := s.turns.head?.getD (Config.turn s.tick)

/-- What the consumer presents: the first item listed, else a free word (log 3). -/
def nextItem (s : State) : HostItem := s.cmds.head?.getD (.word (Config.command s.tick))

/-- The operation an item of the consumer stands for. -/
def itemInstr : HostItem → Instr
  | .word w  => decodeCmd w
  | .waitRdy => .waitrdy

/-- What `phase` selects for SEQ (R52). -/
def seqSelect (s : State) : Except DecodeError Instr := decodeSeq (phaseBits s.phase)

/-- A turn begins: it is used up, and nothing stands on the wires (log 4, log 7). -/
def takeTurn (s : State) : State := { s with turns := s.turns.tail, rsp := none, aff := none, tick := s.tick + 1 }

/-- The consumer's item is used up. -/
def takeItem (s : State) : State := { s with cmds := s.cmds.tail }

/-- The state on which a table row's word, `nbits` bits in whole bytes, is what the next step performs. A selector of SEQ
stands in `phase`, and SEQ has the next turn; a command word is presented by HOST, which has the next turn. Log 14. -/
def placeWord (s : State) (nbits w : Nat) : State :=
  if nbits ≤ 8 then
    { s with phase := (phaseOfBits (BitVec.ofNat 3 w)).getD s.phase, turns := .seq :: s.turns }
  else
    { s with cmds := .word (BitVec.ofNat 16 w) :: s.cmds, turns := .host :: s.turns }

end Sys2Proof.Machine
end

