-- ==== Sys2Proof/Machine/Step.lean ====
section
/-! DEFINITION. One step of the whole machine: one atomic step of the agent whose turn it is (00_scope R9). -/

namespace Sys2Proof.Machine

/-- RESET performs the reset event (R130); SEQ performs the micro-operation `phase` selects, and where it selects none SEQ is
idle and its turn passes (R9, R52; log 10); HOST performs the command it presents and gets its response (R103). -/
def step (s : State) : Host.Outcome State Fault Refusal :=
  match nextAgent s with
  | .reset => .next (opReset (takeTurn s))
  | .seq =>
    match seqSelect s with
    | .ok i    => exec i (takeTurn s)
    | .error _ => .next (takeTurn s)
  | .host => exec (itemInstr (nextItem s)) (takeItem (takeTurn s))

/-- `s` with a table row's word placed where the next step finds it. -/
def State.withFetchWord (s : State) (nbits w : Nat) : State := placeWord s nbits w

end Sys2Proof.Machine
end

