-- ==== Sys2Proof/Certificates/Slice0/Obligations.lean ====
section
/-! DEFINITION. The statements for the provers. Each docstring names the rule of spec/ it formalises. -/

open Sys2Proof Sys2Proof.Machine

/-! ### Encoding -/

/-- R48, R50, R52, R57, R58: decoding an encoded well-formed operation gives it back with every operand bit, and the operations
without an encoding are exactly those of the rows a decoder skips. -/
def Obligations.DecodeUndoesEncode : Prop :=
  ∀ i : Instr, i.wellFormed = true →
    (∀ e, encode i = some e → decode e = .ok i) ∧
    (encode i = none ↔ ∃ r ∈ skippedRows, r.mnemonic = mnemonicOf i)

/-- R112, R59: every command word decodes to one well-formed operation, whose encoding is that word. -/
def Obligations.EveryWordIsOneOperation : Prop :=
  ∀ w : Word, (decodeCmd w).wellFormed = true ∧ encode (decodeCmd w) = some (.cmd w)

/-- R48, R50, R52: a command word matches exactly one row of the table, the row of the operation it decodes to; a value of the
sequencer's selector matches exactly one row or, where it selects nothing, none. -/
def Obligations.OneRowPerSelectorValue : Prop :=
  (∀ w : Word, ∃ r, commandRows.filter (fun r => rowSelects r (.cmd w)) = [r] ∧ r.mnemonic = mnemonicOf (decodeCmd w)) ∧
  (∀ sel : Sel, match decodeSeq sel with
    | .ok i => ∃ r, sequencerRows.filter (fun r => rowSelects r (.seq sel)) = [r] ∧ r.mnemonic = mnemonicOf i
    | .error _ => sequencerRows.filter (fun r => rowSelects r (.seq sel)) = [])

/-- R46, R48, R50, R52, R56: some words written out bit by bit decode to the operations the spec gives them. -/
def Obligations.SpecWordsDecode : Prop :=
  decodeCmd 0b0000000010100101#16 = .nop 0xA5 ∧ decodeCmd 0b0000000111111111#16 = .gen 0xFF ∧
  decodeCmd 0b0000001001010011#16 = .rds 0x53 ∧ decodeCmd 0b0000001111101101#16 = .rdi 0xED ∧
  decodeCmd 0b0000010010100101#16 = .stat 0xA5 ∧ decodeCmd 0b0000010100000000#16 = .rsvd05 0x00 ∧
  decodeCmd 0b0000011111111111#16 = .rsvd0607 0x07 0xFF ∧ decodeCmd 0b1111111111111111#16 = .rsvd80FF 0xFF 0xFF ∧
  decodeSeq 0b001#3 = .ok .step ∧ decodeSeq 0b011#3 = .ok .step ∧ decodeSeq 0b010#3 = .ok .fixzero

/-- R51: NOP, GEN and STAT ignore `idx`, and the assembler writes 0x00 there. -/
def Obligations.IndexIgnoredAndCanonicalWords : Prop :=
  (∀ (i j : Byte) (s : State), exec (.nop i) s = exec (.nop j) s ∧ exec (.gen i) s = exec (.gen j) s ∧
    exec (.stat i) s = exec (.stat j) s) ∧
  (∀ i : Byte, assemble (.nop i) = some 0x0000 ∧ assemble (.gen i) = some 0x0100 ∧ assemble (.stat i) = some 0x0400) ∧
  (∀ i : Byte, decodeCmd (commandWord 0x00 i) = .nop i ∧ decodeCmd (commandWord 0x01 i) = .gen i ∧
    decodeCmd (commandWord 0x04 i) = .stat i)

/-! ### Host commands -/

/-- R104: NOP answers 0x0000 in every phase and writes no state. -/
def Obligations.NopAnswersZero : Prop :=
  (∀ w : Word, opcOf w = 0x00 → decodeCmd w = .nop (idxOf w)) ∧
  (∀ (idx : Byte) (s : State), exec (.nop idx) s = .next { s with rsp := some 0x0000 })

/-- R105: GEN in IDLE sets both cursors to 0x01 and the phase to ARMED; in every other phase it changes nothing; it answers OK
with the phase after it. -/
def Obligations.GenStartsOnce : Prop :=
  (∀ w : Word, opcOf w = 0x01 → decodeCmd w = .gen (idxOf w)) ∧
  (∀ (idx : Byte) (s : State), exec (.gen idx) s = .next (match s.phase with
    | .idle     => { s with p := 0x01, q := 0x01, phase := .armed, rsp := some 0x0001 }
    | .armed    => { s with rsp := some 0x0001 }
    | .cycling  => { s with rsp := some 0x0003 }
    | .fixup    => { s with rsp := some 0x0002 }
    | .complete => { s with rsp := some 0x0006 }))

/-- R106 (and R84, R138 for an entry that no step has written): RDS answers the entry of SBOX in COMPLETE and is refused in
every other phase; it writes no state. -/
def Obligations.RdsReadsSbox : Prop :=
  (∀ w : Word, opcOf w = 0x02 → decodeCmd w = .rds (idxOf w)) ∧
  (∀ (idx : Byte) (s : State),
    (s.phase ≠ .complete → exec (.rds idx) s = .next { s with rsp := some 0x0100 }) ∧
    (s.phase = .complete → ∀ v, readTable s.sbox idx = some v →
      exec (.rds idx) s = .next { s with rsp := some (0x00#8 ++ v) }) ∧
    (s.phase = .complete → ∃ v : Byte, exec (.rds idx) s = .next { s with rsp := some (0x00#8 ++ v) }))

/-- R107 (and R84, R138): RDI does the same for SBOX_INVERSE. -/
def Obligations.RdiReadsSboxInverse : Prop :=
  (∀ w : Word, opcOf w = 0x03 → decodeCmd w = .rdi (idxOf w)) ∧
  (∀ (idx : Byte) (s : State),
    (s.phase ≠ .complete → exec (.rdi idx) s = .next { s with rsp := some 0x0100 }) ∧
    (s.phase = .complete → ∀ v, readTable s.sboxInverse idx = some v →
      exec (.rdi idx) s = .next { s with rsp := some (0x00#8 ++ v) }) ∧
    (s.phase = .complete → ∃ v : Byte, exec (.rdi idx) s = .next { s with rsp := some (0x00#8 ++ v) }))

/-- R108: STAT answers OK with the code of the phase and writes no state. -/
def Obligations.StatAnswersPhase : Prop :=
  (∀ w : Word, opcOf w = 0x04 → decodeCmd w = .stat (idxOf w)) ∧
  (∀ (idx : Byte) (s : State), exec (.stat idx) s = .next { s with rsp := some (match s.phase with
    | .idle => 0x0000 | .armed => 0x0001 | .cycling => 0x0003 | .fixup => 0x0002 | .complete => 0x0006) })

/-- R109: every reserved command is answered 0x0200 in every phase and writes no state; so is each of the seven rows. -/
def Obligations.ReservedAnswersIllegal : Prop :=
  (∀ (w : Word) (s : State), 0x05 ≤ (opcOf w).toNat → exec (decodeCmd w) s = .next { s with rsp := some 0x0200 }) ∧
  (∀ (opc idx : Byte) (s : State),
    exec (.rsvd05 idx) s = .next { s with rsp := some 0x0200 } ∧
    exec (.rsvd0607 opc idx) s = .next { s with rsp := some 0x0200 } ∧
    exec (.rsvd080F opc idx) s = .next { s with rsp := some 0x0200 } ∧
    exec (.rsvd101F opc idx) s = .next { s with rsp := some 0x0200 } ∧
    exec (.rsvd203F opc idx) s = .next { s with rsp := some 0x0200 } ∧
    exec (.rsvd407F opc idx) s = .next { s with rsp := some 0x0200 } ∧
    exec (.rsvd80FF opc idx) s = .next { s with rsp := some 0x0200 })

/-- R112: the whole response function, for every command word in every phase, and what each command writes besides. A read in
COMPLETE of an entry that no step has written is answered OK with a free value (log 6). -/
def Obligations.WholeResponseFunction : Prop :=
  ∀ (w : Word) (s : State), ∃ r : Word,
    exec (decodeCmd w) s = .next (
      if opcOf w = 0x01 ∧ s.phase = .idle then { s with p := 0x01, q := 0x01, phase := .armed, rsp := some r }
      else { s with rsp := some r }) ∧
    match (opcOf w).toNat, s.phase with
    | 0, _         => r = 0x0000
    | 1, .idle     => r = 0x0001
    | 1, .armed    => r = 0x0001
    | 1, .cycling  => r = 0x0003
    | 1, .fixup    => r = 0x0002
    | 1, .complete => r = 0x0006
    | 2, .complete => statusOf r = 0x00 ∧ ∀ v, readTable s.sbox (idxOf w) = some v → r = 0x00#8 ++ v
    | 2, _         => r = 0x0100
    | 3, .complete => statusOf r = 0x00 ∧ ∀ v, readTable s.sboxInverse (idxOf w) = some v → r = 0x00#8 ++ v
    | 3, _         => r = 0x0100
    | 4, .idle     => r = 0x0000
    | 4, .armed    => r = 0x0001
    | 4, .cycling  => r = 0x0003
    | 4, .fixup    => r = 0x0002
    | 4, .complete => r = 0x0006
    | _, _         => r = 0x0200

/-- R110: a step of HOST, whatever it presents, writes no table entry and no constant, and no cursor and no phase but by a GEN
in IDLE, which sets them to fixed values; and its response tells nothing of the cursors. -/
def Obligations.HostWritesNothingButTheStart : Prop :=
  ∀ s t : State, nextAgent s = .host → step s = .next t →
    t.sbox = s.sbox ∧ t.sboxInverse = s.sboxInverse ∧ t.gf = s.gf ∧ t.epoch = s.epoch ∧
    ((t.p = s.p ∧ t.q = s.q ∧ t.phase = s.phase) ∨
     (isGen (itemInstr (nextItem s)) = true ∧ s.phase = .idle ∧ t.p = 0x01 ∧ t.q = 0x01 ∧ t.phase = .armed)) ∧
    (∀ (x y : Byte) (u : State), step { s with p := x, q := y } = .next u → u.rsp = t.rsp)

/-- R47, R49, R117: every step of HOST gives exactly one response, whose status is OK, NOT_READY or ILLEGAL; where it is not OK
the data byte is 0x00 and the state of the block is unchanged. A step of another agent gives no response (log 4). -/
def Obligations.RefusalsChangeNothing : Prop :=
  ∀ s t : State, step s = .next t →
    (nextAgent s ≠ .host → t.rsp = none) ∧
    (nextAgent s = .host → ∃ r, t.rsp = some r ∧
      (statusOf r = 0x00 ∨ statusOf r = 0x01 ∨ statusOf r = 0x02) ∧
      (statusOf r ≠ 0x00 → dataOf r = 0x00 ∧ t.p = s.p ∧ t.q = s.q ∧ t.phase = s.phase ∧ t.sbox = s.sbox ∧
        t.sboxInverse = s.sboxInverse))

/-- R57: WAITRDY issues a STAT; it is over when the response is 0x0006, which is in COMPLETE, and is issued again otherwise
(log 11). -/
def Obligations.WaitrdyRepeatsStat : Prop :=
  ∀ s : State,
    (s.phase = .complete → exec .waitrdy s = .next { s with rsp := some 0x0006 }) ∧
    (s.phase ≠ .complete → ∃ r : Word, r ≠ 0x0006 ∧ exec (.stat 0x00) s = .next { s with rsp := some r } ∧
      exec .waitrdy s = .next { s with rsp := some r, cmds := .waitRdy :: s.cmds })

/-! ### The sequencer -/

/-- R76: STEP is selected where the mask 0b101 gives 0b001, which is in ARMED and CYCLING, and what it does there. -/
def Obligations.StepIsOneLoopIteration : Prop :=
  (∀ sel : Sel, decodeSeq sel = .ok .step ↔ sel &&& 0b101#3 = 0b001#3) ∧
  (∀ ph : Phase, phaseBits ph &&& 0b101#3 = 0b001#3 ↔ ph = .armed ∨ ph = .cycling) ∧
  ∀ s : State, s.phase = .armed ∨ s.phase = .cycling →
    let p' := gfMulBy3 s.gf s.p
    let q' := gfMul s.gf s.q 0xF6
    let a := affine q'
    exec .step s = .next { s with
      p := p'
      q := q'
      sbox := writeTable s.sbox p' a
      sboxInverse := writeTable s.sboxInverse a p'
      phase := if p' = 0x01 then .fixup else .cycling
      aff := none }

/-- R58: STEP is ADVP, ADVQ, AFF, REC, LOOPT in that order, and GEN in IDLE contains INIT; no sub-operation has a selector of
its own. -/
def Obligations.OperationsAreTheirParts : Prop :=
  (∀ s : State, s.phase = .armed ∨ s.phase = .cycling →
    exec .step s =
      andThen (andThen (andThen (andThen (exec .advp s) (exec .advq)) (exec .aff)) (exec .record)) (exec .loopt)) ∧
  (∀ (idx : Byte) (s : State), s.phase = .idle →
    exec (.gen idx) s = andThen (exec .init s) (fun t => .next { t with phase := .armed, rsp := some 0x0001 })) ∧
  (∀ sel : Selector, ∀ i ∈ [Instr.init, .advp, .advq, .aff, .record, .loopt], encode i = none ∧ decode sel ≠ .ok i)

/-- R95: FIXZERO is selected by 0b010, which is FIXUP, and what it does there. -/
def Obligations.FixzeroWritesTheZeroPair : Prop :=
  (∀ sel : Sel, decodeSeq sel = .ok .fixzero ↔ sel = 0b010#3) ∧
  (∀ ph : Phase, phaseBits ph = 0b010#3 ↔ ph = .fixup) ∧
  ∀ s : State, s.phase = .fixup →
    exec .fixzero s = .next { s with
      sbox := writeTable s.sbox 0x00 0x63
      sboxInverse := writeTable s.sboxInverse 0x63 0x00
      phase := .complete }

/-- R52: which micro-operation `phase` selects; where it does not select one, `exec` refuses that one by name (the model's
choice, log 9). -/
def Obligations.PhaseSelectsMicroOperation : Prop :=
  ∀ s : State,
    (seqSelect s = .ok .step ↔ s.phase = .armed ∨ s.phase = .cycling) ∧
    (seqSelect s = .ok .fixzero ↔ s.phase = .fixup) ∧
    ((∃ e, seqSelect s = .error e) ↔ s.phase = .idle ∨ s.phase = .complete) ∧
    (exec .step s = .refused .notEnabled ↔ ¬(s.phase = .armed ∨ s.phase = .cycling)) ∧
    (exec .fixzero s = .refused .notEnabled ↔ s.phase ≠ .fixup)

/-- R71: INIT. -/
def Obligations.InitSetsBothCursors : Prop :=
  ∀ s : State, exec .init s = .next { s with p := 0x01, q := 0x01 }

/-- R72: ADVP; with the default collaborator the new `p` is `xtime(p) ^ p`. -/
def Obligations.AdvpMultipliesByThree : Prop :=
  (∀ s : State, exec .advp s = .next { s with p := gfMulBy3 s.gf s.p }) ∧
  (∀ s : State, s.gf = .ref → exec .advp s = .next { s with p := xtime s.p ^^^ s.p })

/-- R73: ADVQ; it does not depend on `p`. -/
def Obligations.AdvqDividesByThree : Prop :=
  (∀ s : State, exec .advq s = .next { s with q := gfMul s.gf s.q 0xF6 }) ∧
  (∀ s : State, s.gf = .ref → exec .advq s = .next { s with q := refMul s.q 0xF6 })

/-- R85, R86: AFF puts out the affine transform of `q` and writes none of the block's state; where the value stands until REC
takes it is the model's (log 7). -/
def Obligations.AffPutsOutTheTransform : Prop :=
  ∀ s : State, exec .aff s = .next { s with
    aff := some (s.q ^^^ s.q.rotateLeft 1 ^^^ s.q.rotateLeft 2 ^^^ s.q.rotateLeft 3 ^^^ s.q.rotateLeft 4 ^^^ 0x63#8) }

/-- R93: REC records the pair both ways; without a value of AFF it takes the transform of `q` (log 8). -/
def Obligations.RecRecordsBothWays : Prop :=
  (∀ (s : State) (a : Byte), s.aff = some a → exec .record s = .next { s with
    sbox := writeTable s.sbox s.p a, sboxInverse := writeTable s.sboxInverse a s.p, aff := none }) ∧
  (∀ s : State, s.aff = none → exec .record s = .next { s with
    sbox := writeTable s.sbox s.p (affine s.q), sboxInverse := writeTable s.sboxInverse (affine s.q) s.p })

/-- R75: LOOPT tests the new `p` against 0x01 in all 8 bits and looks at nothing else. -/
def Obligations.LoopTestOnNewP : Prop :=
  ∀ s : State, exec .loopt s = .next { s with phase := if s.p = 0x01 then .fixup else .cycling }

/-! ### Arithmetic -/

/-- R86, whose formula the spec marks as general knowledge: rotation moves bit `(i - n) mod 8` to bit `i`. -/
def Obligations.RotationMovesBits : Prop :=
  ∀ (v : Byte) (n i : Nat), 1 ≤ n → n ≤ 7 → i < 8 → (rotl8 v n).getLsbD i = v.getLsbD ((i + 8 - n) % 8)

/-- R87 (the spec's own inference from R85 and R86): the bit form of the affine transform. -/
def Obligations.AffineBitForm : Prop :=
  ∀ (v : Byte) (i : Nat), i < 8 →
    (affine v).getLsbD i = (v.getLsbD i ^^ v.getLsbD ((i + 4) % 8) ^^ v.getLsbD ((i + 5) % 8) ^^
      v.getLsbD ((i + 6) % 8) ^^ v.getLsbD ((i + 7) % 8) ^^ (0b01100011#8).getLsbD i)

/-- R89 (the spec's own evaluation of R85): the affine transform is a bijection, gives 0x63 for 0x00 only, is linear but for the constant, and its inverse is the
function of item 4. -/
def Obligations.AffineLaws : Prop :=
  (∀ v w : Byte, affine v = affine w → v = w) ∧
  (∀ b : Byte, ∃ v : Byte, affine v = b) ∧
  (∀ v : Byte, affine v = 0x63 ↔ v = 0x00) ∧
  (∀ v w : Byte, affine v ^^^ affine w = affine (v ^^^ w) ^^^ 0x63) ∧
  (∀ v : Byte, rotl8 (affine v) 1 ^^^ rotl8 (affine v) 3 ^^^ rotl8 (affine v) 6 ^^^ 0x05 = v)

/-- R61 (the spec's own inference from R60): the laws of the field's multiplication, of the product of R63. -/
def Obligations.FieldLaws : Prop :=
  (∀ a b : Byte, refMul a b = refMul b a) ∧
  (∀ a b c : Byte, refMul (refMul a b) c = refMul a (refMul b c)) ∧
  (∀ a b c : Byte, refMul a (b ^^^ c) = refMul a b ^^^ refMul a c) ∧
  (∀ a : Byte, refMul a 0x00 = 0x00 ∧ refMul a 0x01 = a) ∧
  (∀ a : Byte, a ≠ 0x00 → ∃ b : Byte, refMul a b = 0x01 ∧ ∀ c : Byte, refMul a c = 0x01 → c = b)

/-- R65, and R64, whose `mulBy3(a) = mul(a, 0x03)` is the spec's own inference: `mulBy3` is multiplication by 0x03, and multiplication by 0xF6 undoes it. -/
def Obligations.InversePairContract : Prop :=
  (∀ a : Byte, refMulBy3 a = refMul a 0x03) ∧ refMulBy3 0x00 = 0x00 ∧ refMul 0x03 0xF6 = 0x01 ∧
  (∀ x : Byte, refMul (refMulBy3 x) 0xF6 = x)

/-- R68: the powers 3^1 .. 3^255 are the nonzero elements, each once, and 3^255 is the first return to 1. -/
def Obligations.ThreeGeneratesTheGroup : Prop :=
  walkP 255 = 0x01 ∧ (∀ k, 1 ≤ k → k ≤ 254 → walkP k ≠ 0x01) ∧
  (∀ k, walkP k ≠ 0x00) ∧
  (∀ x : Byte, x ≠ 0x00 → ∃ k, 1 ≤ k ∧ k ≤ 255 ∧ walkP k = x ∧ ∀ j, 1 ≤ j → j ≤ 255 → walkP j = x → j = k)

/-! ### Reset -/

/-- R130: in RESET's turn the phase becomes IDLE, `ready` falls, and nothing of the five pieces of state survives; that a table
entry then holds no value is the model's form of "unspecified" (log 6). That the step is the same whatever the block held, so that
the cursors' new bytes do not depend on the old ones, is the model's choice as well: one draw for each reset (log 5). -/
def Obligations.ResetEventForgets : Prop :=
  ∀ s : State, nextAgent s = .reset →
    (∃ t : State, step s = .next t ∧ t.phase = .idle ∧ ready t = false ∧ t.rsp = none ∧
      ∀ i : Byte, readTable t.sbox i = none ∧ readTable t.sboxInverse i = none) ∧
    (∀ (p q : Byte) (ph : Phase) (sb si : Table),
      step { s with p := p, q := q, phase := ph, sbox := sb, sboxInverse := si } = step s)

/-- R29: after reset the phase is IDLE, code 0b000, and `ready` is 0. -/
def Obligations.ResetLeavesIdle : Prop :=
  State.reset.phase = .idle ∧ phaseBits State.reset.phase = 0b000#3 ∧ ready State.reset = false

/-- The two invariants and the premise on the collaborator hold at reset (the reset values of the model's own fields among
them: log 1, log 6). -/
def Obligations.ResetMeetsTheInvariants : Prop :=
  TablesCanonical State.reset ∧ Walk State.reset ∧ gfConforming State.reset.gf ∧ State.reset.phase = .idle

/-! ### The machine as a whole -/

/-- R116: every micro-operation and every command completes; a step never ends in a fault or a refusal. -/
def Obligations.EveryStepCompletes : Prop :=
  ∀ s : State, ∃ t : State, step s = .next t

/-- R9, R52, R103: a step performs the operation that the agent whose turn it is selects, on the state with that turn (and, for
HOST, that item) used up and nothing on the wires (log 4, log 7); SEQ's turn passes where it selects none; RESET's is the reset event. -/
def Obligations.StepPerformsTheTurn : Prop :=
  (∀ (s : State) (w : Word) (ts : List Agent) (cs : List HostItem), s.turns = .host :: ts → s.cmds = .word w :: cs →
    (decodeCmd w).wellFormed = true ∧
    step s = exec (decodeCmd w) { s with turns := ts, cmds := cs, rsp := none, aff := none, tick := s.tick + 1 }) ∧
  (∀ (s : State) (ts : List Agent) (cs : List HostItem), s.turns = .host :: ts → s.cmds = .waitRdy :: cs →
    step s = exec .waitrdy { s with turns := ts, cmds := cs, rsp := none, aff := none, tick := s.tick + 1 }) ∧
  (∀ (s : State) (ts : List Agent) (i : Instr), s.turns = .seq :: ts → decodeSeq (phaseBits s.phase) = .ok i →
    step s = exec i { s with turns := ts, rsp := none, aff := none, tick := s.tick + 1 }) ∧
  (∀ (s : State) (ts : List Agent) (e : DecodeError), s.turns = .seq :: ts → decodeSeq (phaseBits s.phase) = .error e →
    step s = .next { s with turns := ts, rsp := none, aff := none, tick := s.tick + 1 }) ∧
  (∀ (s : State) (ts : List Agent), s.turns = .reset :: ts →
    step s = .next (opReset { s with turns := ts, rsp := none, aff := none, tick := s.tick + 1 }))

/-- A table row's word, placed, is what the very next step performs (log 14, log 15). -/
def Obligations.PlacedWordRunsNext : Prop :=
  (∀ (s : State) (w : Word), decodeTableWord 16 w.toNat = some (decodeCmd w) ∧
    step (s.withFetchWord 16 w.toNat) = exec (decodeCmd w) { s with rsp := none, aff := none, tick := s.tick + 1 }) ∧
  (∀ (s : State) (n : Nat) (i : Instr), decodeTableWord 8 n = some i → ∃ ph : Phase, phaseBits ph = BitVec.ofNat 3 n ∧
    step (s.withFetchWord 8 n) = exec i { s with phase := ph, rsp := none, aff := none, tick := s.tick + 1 })

/-- R78: the complete transition relation of `phase`. -/
def Obligations.PhaseTransitions : Prop :=
  ∀ s t : State, step s = .next t →
    t.phase = phaseAfter (nextAgent s) (itemInstr (nextItem s)) (gfMulBy3 s.gf s.p) s.phase

/-- R21: while the phase is COMPLETE no step but reset writes anything of the block, so only reset ends it; and between two
resets generation happens at most once, for IDLE, from which alone ARMED is entered, is left for good until reset. -/
def Obligations.CompleteIsFinal : Prop :=
  (∀ s t : State, s.phase = .complete → nextAgent s ≠ .reset → step s = .next t →
    t.p = s.p ∧ t.q = s.q ∧ t.phase = .complete ∧ t.sbox = s.sbox ∧ t.sboxInverse = s.sboxInverse) ∧
  (∀ s t : State, nextAgent s ≠ .reset → step s = .next t →
    (s.phase ≠ .idle → t.phase ≠ .idle) ∧
    (t.phase = .armed → s.phase = .armed ∨ s.phase = .idle ∧ nextAgent s = .host ∧ isGen (itemInstr (nextItem s)) = true))

/-- R34, R38: reads are of constants. From a state in COMPLETE, after any steps without a reset, RDS and RDI of an index answer
what they answered before. -/
def Obligations.ReadsAreOfConstants : Prop :=
  ∀ (s t : State) (l rest : List Agent), s.phase = .complete → s.turns = l ++ rest → Agent.reset ∉ l →
    Host.Core.run Sys2Proof.core l.length s = .next t →
    ∀ idx : Byte, ∃ r : Word,
      exec (.rds idx) s = .next { s with rsp := some r } ∧ exec (.rds idx) t = .next { t with rsp := some r } ∧
      ∃ r' : Word,
        exec (.rdi idx) s = .next { s with rsp := some r' } ∧ exec (.rdi idx) t = .next { t with rsp := some r' }

/-- R15, R16: the codes of the phases and the meaning of their bits. -/
def Obligations.PhaseFields : Prop :=
  phaseBits .idle = 0b000#3 ∧ phaseBits .armed = 0b001#3 ∧ phaseBits .cycling = 0b011#3 ∧ phaseBits .fixup = 0b010#3 ∧
  phaseBits .complete = 0b110#3 ∧
  (∀ ph, walkBit ph = true ↔ ph = .armed ∨ ph = .cycling) ∧
  (∀ ph, advBit ph = true ↔ ph = .cycling ∨ ph = .fixup ∨ ph = .complete) ∧
  (∀ ph, rdyBit ph = true ↔ ph = .complete) ∧
  (∀ ph, phaseOfBits (phaseBits ph) = some ph) ∧ (∀ b ph, phaseOfBits b = some ph → phaseBits ph = b)

/-- R18: `ready` is `phase[2]`, 1 exactly in COMPLETE; it is a level and falls only at reset. -/
def Obligations.ReadyIsALevel : Prop :=
  (∀ s : State, ready s = (phaseBits s.phase).getLsbD 2 ∧ (ready s = true ↔ s.phase = .complete)) ∧
  (∀ s t : State, ready s = true → nextAgent s ≠ .reset → step s = .next t → ready t = true)

/-- R24: the collaborator is not state and never changes. -/
def Obligations.CollaboratorNeverChanges : Prop :=
  ∀ s t : State, step s = .next t → t.gf = s.gf

/-- R10, R24, R28, R85: the five items of the block, with the model's arguments, decide a step and what it leaves; nothing of an
earlier command, response or affine result is remembered, and no affine result outlives its STEP (log 4, log 7). -/
def Obligations.NoMemoryOfPastCommands : Prop :=
  (∀ (s : State) (r : Option Word) (a : Option Byte), step { s with rsp := r, aff := a } = step s) ∧
  (∀ s t : State, s.toBlock = t.toBlock → s.toSurroundings = t.toSurroundings → step s = step t) ∧
  (∀ s t : State, step s = .next t → t.aff = none)

/-- R29 (the spec's own inference): the cursors in IDLE are unobservable: with any other bytes there a step has the same outcome, but for those bytes as
long as the phase stays IDLE. -/
def Obligations.IdleCursorsUnobservable : Prop :=
  ∀ (s t : State) (x y : Byte), s.phase = .idle → step s = .next t →
    step { s with p := x, q := y } = .next t ∨
    (t.phase = .idle ∧ step { s with p := x, q := y } = .next { t with p := x, q := y })

/-- The model's own invariant (log 6): the tables keep their canonical form, indices strictly rising and each a byte's (R31), in
every step, from every state that has it. -/
def Obligations.StepKeepsTablesCanonical : Prop :=
  ∀ s t : State, TablesCanonical s → step s = .next t → TablesCanonical t

/-! ### A generation -/

/-- R17 (the spec's own inference): what holds in each phase of a generation is kept by every step of every agent, with a conforming collaborator. -/
def Obligations.StepKeepsTheWalk : Prop :=
  ∀ s t : State, gfConforming s.gf → Walk s → step s = .next t → Walk t

/-- R14, R74: the cursor invariant, from every state that meets it, whatever the tables hold. -/
def Obligations.StepKeepsCursorsInverse : Prop :=
  ∀ s t : State, gfConforming s.gf → (s.phase ≠ .idle → refMul s.p s.q = 0x01) → step s = .next t →
    (t.phase ≠ .idle → refMul t.p t.q = 0x01)

/-- R17 (the spec's own inference): the cursors and the entries of both tables in each phase of a generation: those written so
far hold the bytes of the walk, and no other holds a value (log 6); in COMPLETE every entry holds the byte that 95_test_vectors
section 3 lists. -/
def Obligations.EntriesDuringTheWalk : Prop :=
  ∀ s : State, Walk s →
    (s.phase = .idle → ∀ x : Byte, readTable s.sbox x = none ∧ readTable s.sboxInverse x = none) ∧
    (s.phase = .armed → s.p = 0x01 ∧ s.q = 0x01 ∧
      ∀ x : Byte, readTable s.sbox x = none ∧ readTable s.sboxInverse x = none) ∧
    (s.phase = .cycling → ∃ k, 1 ≤ k ∧ k ≤ 254 ∧ s.p = walkP k ∧ s.p ≠ 0x01 ∧ s.q = walkQ k ∧ refMul s.p s.q = 0x01 ∧
      ∀ x v : Byte,
        (readTable s.sbox x = some v ↔ ∃ j, 1 ≤ j ∧ j ≤ k ∧ x = walkP j ∧ v = affine (walkQ j)) ∧
        (readTable s.sboxInverse x = some v ↔ ∃ j, 1 ≤ j ∧ j ≤ k ∧ x = affine (walkQ j) ∧ v = walkP j)) ∧
    (s.phase = .fixup → s.p = 0x01 ∧ s.q = 0x01 ∧
      (∀ x v : Byte,
        (readTable s.sbox x = some v ↔ ∃ j, 1 ≤ j ∧ j ≤ 255 ∧ x = walkP j ∧ v = affine (walkQ j)) ∧
        (readTable s.sboxInverse x = some v ↔ ∃ j, 1 ≤ j ∧ j ≤ 255 ∧ x = affine (walkQ j) ∧ v = walkP j)) ∧
      (∀ x : Byte, readTable s.sbox x = none ↔ x = 0x00) ∧
      (∀ x : Byte, readTable s.sboxInverse x = none ↔ x = 0x63)) ∧
    (s.phase = .complete → s.p = 0x01 ∧ s.q = 0x01 ∧
      ∀ x : Byte,
        (∃ v, readTable s.sbox x = some v ∧ specSbox[x.toNat]? = some v) ∧
        (∃ v, readTable s.sboxInverse x = some v ∧ specSboxInverse[x.toNat]? = some v))

/-- R94 (the spec's own inference): the recorder invariant: each written entry of one table is undone by the other. -/
def Obligations.RecorderInvariant : Prop :=
  ∀ s : State, Walk s → ∀ x y : Byte, readTable s.sbox x = some y ↔ readTable s.sboxInverse y = some x

/-- R37, R96 (the spec's own inference): no step of a generation writes an entry that a step has written before. -/
def Obligations.NoEntryWrittenTwice : Prop :=
  ∀ s : State, gfConforming s.gf → Walk s →
    (s.phase = .armed ∨ s.phase = .cycling →
      gfMulBy3 s.gf s.p ≠ 0x00 ∧ affine (gfMul s.gf s.q 0xF6) ≠ 0x63 ∧
      readTable s.sbox (gfMulBy3 s.gf s.p) = none ∧ readTable s.sboxInverse (affine (gfMul s.gf s.q 0xF6)) = none) ∧
    (s.phase = .fixup → readTable s.sbox 0x00 = none ∧ readTable s.sboxInverse 0x63 = none)

/-- R98: the guarantees of the finished tables, in the order the rule lists them. -/
def Obligations.FinishedTables : Prop :=
  ∀ s : State, Walk s → s.phase = .complete →
    -- 1 bijectivity
    (∀ y : Byte, (∃ x, readTable s.sbox x = some y ∧ ∀ z, readTable s.sbox z = some y → z = x) ∧
      (∃ x, readTable s.sboxInverse x = some y ∧ ∀ z, readTable s.sboxInverse z = some y → z = x)) ∧
    -- 2 mutual inverse
    (∀ x : Byte, ∃ y z : Byte, readTable s.sbox x = some y ∧ readTable s.sboxInverse y = some x ∧
      readTable s.sboxInverse x = some z ∧ readTable s.sbox z = some x) ∧
    -- 3 closed form
    readTable s.sbox 0x00 = some 0x63 ∧
    (∀ x y : Byte, refMul x y = 0x01 → readTable s.sbox x = some (affine y)) ∧
    -- 4 determinism
    (∀ t : State, Walk t → t.phase = .complete → t.sbox = s.sbox ∧ t.sboxInverse = s.sboxInverse) ∧
    -- 5 the tables of 95_test_vectors section 3
    (∀ x : Byte, readTable s.sbox x = specSbox[x.toNat]? ∧ readTable s.sboxInverse x = specSboxInverse[x.toNat]?)

/-- R99: the six reference values, as the port answers them, and (the spec's own inference) the STEPs that write them. -/
def Obligations.ReferenceValues : Prop :=
  (∀ s : State, Walk s → s.phase = .complete →
    exec (.rds 0x00) s = .next { s with rsp := some 0x0063 } ∧ exec (.rds 0x01) s = .next { s with rsp := some 0x007C } ∧
    exec (.rds 0x53) s = .next { s with rsp := some 0x00ED } ∧ exec (.rds 0xFF) s = .next { s with rsp := some 0x0016 } ∧
    exec (.rdi 0x63) s = .next { s with rsp := some 0x0000 } ∧ exec (.rdi 0xED) s = .next { s with rsp := some 0x0053 }) ∧
  walkP 255 = 0x01 ∧ affine (walkQ 255) = 0x7C ∧
  walkP 48 = 0x53 ∧ walkQ 48 = 0xCA ∧ affine (walkQ 48) = 0xED ∧
  walkP 7 = 0xFF ∧ walkQ 7 = 0x1C ∧ affine (walkQ 7) = 0x16

/-- R113 (the spec's own inference): the laws of the read commands in COMPLETE. -/
def Obligations.ReadsInvertEachOther : Prop :=
  ∀ s : State, Walk s → s.phase = .complete →
    (∀ x y : Byte, exec (.rds x) s = .next { s with rsp := some (0x00#8 ++ y) } ↔
      exec (.rdi y) s = .next { s with rsp := some (0x00#8 ++ x) }) ∧
    (∀ x x' y : Byte, exec (.rds x) s = .next { s with rsp := some (0x00#8 ++ y) } →
      exec (.rds x') s = .next { s with rsp := some (0x00#8 ++ y) } → x = x') ∧
    (∀ x x' y : Byte, exec (.rdi x) s = .next { s with rsp := some (0x00#8 ++ y) } →
      exec (.rdi x') s = .next { s with rsp := some (0x00#8 ++ y) } → x = x')

/-- R77, R80: from ARMED, with a conforming collaborator, whatever HOST does in its turns and however they are interleaved, the
phase is FIXUP after exactly 255 turns of SEQ and COMPLETE after 256, as long as no reset comes; before that the cursors are
3^k and 3^(-k) after k turns. -/
def Obligations.GenerationTakes256Steps : Prop :=
  ∀ (s : State) (l rest : List Agent), gfConforming s.gf → Walk s → s.phase = .armed → s.turns = l ++ rest →
    Agent.reset ∉ l →
    ∃ t : State, Host.Core.run Sys2Proof.core l.length s = .next t ∧ Walk t ∧
      t.phase = (if l.count .seq = 0 then .armed else if l.count .seq ≤ 254 then .cycling
        else if l.count .seq = 255 then .fixup else .complete) ∧
      (l.count .seq ≤ 255 → t.p = walkP (l.count .seq) ∧ t.q = walkQ (l.count .seq))

/-- R81, R134: after any reset, a GEN and 256 turns of SEQ with a conforming collaborator, the tables are the same bytes: those
of 95_test_vectors section 3, whatever the cursors held, whatever HOST does meanwhile and however the turns are interleaved. -/
def Obligations.RegenerationGivesTheSameTables : Prop :=
  ∀ (s : State) (l rest : List Agent) (w : Word) (cs : List HostItem), gfConforming s.gf →
    s.phase = .idle → s.sbox = [] → s.sboxInverse = [] →
    s.turns = .host :: (l ++ rest) → s.cmds = .word w :: cs → opcOf w = 0x01 →
    Agent.reset ∉ l → 256 ≤ l.count .seq →
    ∃ t : State, Host.Core.run Sys2Proof.core (l.length + 1) s = .next t ∧ t.phase = .complete ∧
      ∀ x : Byte, readTable t.sbox x = specSbox[x.toNat]? ∧ readTable t.sboxInverse x = specSboxInverse[x.toNat]?

/-- R84, R138: with a collaborator whose `mulBy3` gives 0x00, no number of turns without a reset ends the walk. -/
def Obligations.WrongCollaboratorMayHang : Prop :=
  ∀ (s : State) (l rest : List Agent), (∀ x : Byte, gfMulBy3 s.gf x = 0x00) → s.phase = .armed ∨ s.phase = .cycling →
    s.turns = l ++ rest → Agent.reset ∉ l →
    ∃ t : State, Host.Core.run Sys2Proof.core l.length s = .next t ∧ (t.phase = .armed ∨ t.phase = .cycling) ∧
      ready t = false

/-- R84 and 95_test_vectors section 5.3: with a collaborator that is the identity COMPLETE comes after two turns of SEQ, with two
entries of each table written; a read of any other entry still answers OK with some byte. -/
def Obligations.WrongCollaboratorMayEndEarly : Prop :=
  ∀ (s : State) (rest : List Agent), (∀ x : Byte, gfMulBy3 s.gf x = x) → (∀ x : Byte, gfMul s.gf x 0xF6 = x) →
    s.phase = .armed → s.p = 0x01 → s.q = 0x01 → s.sbox = [] → s.sboxInverse = [] → s.turns = .seq :: .seq :: rest →
    ∃ t : State, Host.Core.run Sys2Proof.core 2 s = .next t ∧ t.phase = .complete ∧
      readTable t.sbox 0x01 = some 0x7C ∧ readTable t.sbox 0x00 = some 0x63 ∧
      readTable t.sboxInverse 0x7C = some 0x01 ∧ readTable t.sboxInverse 0x63 = some 0x00 ∧
      (∀ x : Byte, x ≠ 0x00 → x ≠ 0x01 → readTable t.sbox x = none) ∧
      (∀ x : Byte, x ≠ 0x63 → x ≠ 0x7C → readTable t.sboxInverse x = none) ∧
      (∀ x : Byte, ∃ v : Byte, exec (.rds x) t = .next { t with rsp := some (0x00#8 ++ v) }) ∧
      (∀ x : Byte, ∃ v : Byte, exec (.rdi x) t = .next { t with rsp := some (0x00#8 ++ v) })

/-! ### Frames -/

/-- R36, R100: an operation that records nothing leaves every byte of both tables as it was, each register but those its rule
names, and the model's own fields but those its log entry names. -/
def Obligations.FrameOfNonRecordingOperations : Prop :=
  ∀ (i : Instr) (s t : State), i ≠ .step → i ≠ .fixzero → i ≠ .record → exec i s = .next t →
    (∀ x : Byte, readTable t.sbox x = readTable s.sbox x ∧ readTable t.sboxInverse x = readTable s.sboxInverse x) ∧
    (i ≠ .init → i ≠ .advp → ¬(isGen i = true ∧ s.phase = .idle) → t.p = s.p) ∧
    (i ≠ .init → i ≠ .advq → ¬(isGen i = true ∧ s.phase = .idle) → t.q = s.q) ∧
    (i ≠ .loopt → ¬(isGen i = true ∧ s.phase = .idle) → t.phase = s.phase) ∧
    (i ≠ .aff → t.aff = s.aff) ∧ (i ≠ .waitrdy → t.cmds = s.cmds) ∧
    (i = .init ∨ i = .advp ∨ i = .advq ∨ i = .aff ∨ i = .loopt → t.rsp = s.rsp) ∧
    t.gf = s.gf ∧ t.turns = s.turns ∧ t.epoch = s.epoch ∧ t.tick = s.tick

/-- R36, R76, R93, R95: an operation that records writes one byte of each table, at the index its rule computes, and leaves
every other byte of both tables as it was; REC and FIXZERO leave the cursors, STEP and FIXZERO set the phase their rules give. -/
def Obligations.FrameOfRecordingOperations : Prop :=
  ∀ (i : Instr) (s t : State) (x a : Byte),
    (i = .step ∧ x = gfMulBy3 s.gf s.p ∧ a = affine (gfMul s.gf s.q 0xF6)) ∨
      (i = .record ∧ x = s.p ∧ a = affOperand s) ∨ (i = .fixzero ∧ x = 0x00 ∧ a = 0x63) →
    exec i s = .next t →
    readTable t.sbox x = some a ∧ readTable t.sboxInverse a = some x ∧
    (∀ y : Byte, y ≠ x → readTable t.sbox y = readTable s.sbox y) ∧
    (∀ y : Byte, y ≠ a → readTable t.sboxInverse y = readTable s.sboxInverse y) ∧
    (i ≠ .step → t.p = s.p ∧ t.q = s.q) ∧ (i = .record → t.phase = s.phase) ∧
    (i = .fixzero → t.aff = s.aff) ∧
    t.gf = s.gf ∧ t.turns = s.turns ∧ t.cmds = s.cmds ∧ t.rsp = s.rsp ∧ t.epoch = s.epoch ∧ t.tick = s.tick
end

