-- ==== Sys2Proof/Laws/Decode.lean ====
section
/-! SUPPORT. The fields of a command word, and what the two decoders answer. -/

namespace Sys2Proof

@[simp] theorem opcOf_commandWord (opc idx : Byte) : opcOf (commandWord opc idx) = opc := by
  ext i hi
  simp only [opcOf, commandWord, BitVec.getElem_extractLsb', BitVec.getLsbD_append]
  rw [if_neg (by omega)]
  simp [BitVec.getLsbD_eq_getElem hi]

@[simp] theorem idxOf_commandWord (opc idx : Byte) : idxOf (commandWord opc idx) = idx := by
  ext i hi
  simp only [idxOf, commandWord, BitVec.getElem_extractLsb', BitVec.getLsbD_append]
  rw [if_pos (by omega)]
  simp [BitVec.getLsbD_eq_getElem hi]

theorem getLsbD_commandWord (opc idx : Byte) (i : Nat) :
    (commandWord opc idx).getLsbD i = if i < 8 then idx.getLsbD i else opc.getLsbD (i - 8) :=
  BitVec.getLsbD_append

@[simp] theorem commandWord_opcOf_idxOf (w : Word) : commandWord (opcOf w) (idxOf w) = w := by
  refine BitVec.eq_of_getLsbD_eq fun i hi => ?_
  rw [getLsbD_commandWord]
  simp only [opcOf, idxOf, BitVec.getLsbD_extractLsb']
  split
  · simp [*]
  · simp [show 8 + (i - 8) = i by omega, show i - 8 < 8 by omega]

theorem commandWord_and (opc idx m k : Byte) :
    commandWord opc idx &&& commandWord m k = commandWord (opc &&& m) (idx &&& k) := by
  refine BitVec.eq_of_getLsbD_eq fun i hi => ?_
  simp only [BitVec.getLsbD_and, getLsbD_commandWord]
  split <;> rfl

/-- The row a reserved operation belongs to (R50). -/
def isReserved : Instr → Bool
  | .rsvd05 _ | .rsvd0607 _ _ | .rsvd080F _ _ | .rsvd101F _ _ | .rsvd203F _ _ | .rsvd407F _ _ | .rsvd80FF _ _ => true
  | _ => false

theorem isReserved_decodeReserved (opc idx : Byte) : isReserved (decodeReserved opc idx) = true := by
  unfold decodeReserved; split_ifs <;> rfl

/-- R112: the six rules a command word selects one of. -/
theorem decodeCmd_cases (w : Word) :
    opcOf w = 0x00 ∧ decodeCmd w = .nop (idxOf w) ∨ opcOf w = 0x01 ∧ decodeCmd w = .gen (idxOf w) ∨
    opcOf w = 0x02 ∧ decodeCmd w = .rds (idxOf w) ∨ opcOf w = 0x03 ∧ decodeCmd w = .rdi (idxOf w) ∨
    opcOf w = 0x04 ∧ decodeCmd w = .stat (idxOf w) ∨
    0x05 ≤ (opcOf w).toNat ∧ decodeCmd w = decodeReserved (opcOf w) (idxOf w) := by
  unfold decodeCmd
  dsimp only
  split_ifs with h0 h1 h2 h3 h4
  · exact .inl ⟨h0, rfl⟩
  · exact .inr (.inl ⟨h1, rfl⟩)
  · exact .inr (.inr (.inl ⟨h2, rfl⟩))
  · exact .inr (.inr (.inr (.inl ⟨h3, rfl⟩)))
  · exact .inr (.inr (.inr (.inr (.inl ⟨h4, rfl⟩))))
  · exact .inr (.inr (.inr (.inr (.inr ⟨by bv_omega, rfl⟩))))

/-- A code from 0x05 on decodes to its reserved row, which is well-formed and whose encoding gives every bit back (R50). -/
theorem decodeReserved_encode (opc idx : Byte) (h : 0x05 ≤ opc.toNat) :
    (decodeReserved opc idx).wellFormed = true ∧ encode (decodeReserved opc idx) = some (.cmd (commandWord opc idx)) := by
  have := opc.isLt
  unfold decodeReserved
  split_ifs
  · exact ⟨rfl, by rw [encode, show opc = 0x05 by bv_omega]⟩
  all_goals exact ⟨by simp [Instr.wellFormed, inRange]; omega, rfl⟩

/-- R52, R53: what each value of the selector selects. -/
theorem decodeSeq_cases (sel : Sel) :
    (sel = 0b001#3 ∨ sel = 0b011#3) ∧ decodeSeq sel = .ok .step ∨
    sel = 0b010#3 ∧ decodeSeq sel = .ok .fixzero ∨
    (sel = 0b000#3 ∨ sel = 0b110#3) ∧ decodeSeq sel = .error .seqIdle ∨
    (sel = 0b100#3 ∨ sel = 0b101#3 ∨ sel = 0b111#3) ∧ decodeSeq sel = .error .illegalPhase := by
  revert sel; decide

end Sys2Proof
end

