-- ==== Sys2Proof/Laws/Field.lean ====
section
/-! SUPPORT. The reference arithmetic: multiplication by x and by 3 is additive, and a factor 3 moves out of a product
(40_gf_arithmetic R61 to R64). -/

namespace Sys2Proof.Machine

theorem xtime_xor (a b : Byte) : xtime (a ^^^ b) = xtime a ^^^ xtime b := by
  simp only [xtime, BitVec.getLsbD_xor, BitVec.shiftLeft_xor_distrib]
  have h : ∀ x y c : Byte, x ^^^ y = x ^^^ c ^^^ (y ^^^ c) := fun x y c => by
    rw [show x ^^^ c ^^^ (y ^^^ c) = x ^^^ y ^^^ (c ^^^ c) by ac_rfl]; simp
  cases a.getLsbD 7 <;> cases b.getLsbD 7 <;> simp <;> first | exact h _ _ _ | ac_rfl

theorem refMulBy3_xor (a b : Byte) : refMulBy3 (a ^^^ b) = refMulBy3 a ^^^ refMulBy3 b := by
  simp only [refMulBy3, xtime_xor]; ac_rfl

theorem refMulBy3_xtime (a : Byte) : refMulBy3 (xtime a) = xtime (refMulBy3 a) := by
  simp [refMulBy3, xtime_xor]

/-- The loop of R63 commutes with a multiplication by 3. -/
theorem foldl_mulRound_refMulBy3 (b : Byte) (l : List Nat) (acc : Byte × Byte) :
    l.foldl (mulRound b) (refMulBy3 acc.1, refMulBy3 acc.2) =
      (refMulBy3 (l.foldl (mulRound b) acc).1, refMulBy3 (l.foldl (mulRound b) acc).2) := by
  induction l generalizing acc with
  | nil => rfl
  | cons i l ih =>
    simp only [List.foldl_cons]
    rw [← ih]
    congr 1
    simp only [mulRound, refMulBy3_xtime]
    split <;> simp [refMulBy3_xor]

/-- A factor 3 moves out of a product. -/
theorem refMul_refMulBy3 (a b : Byte) : refMul (refMulBy3 a) b = refMulBy3 (refMul a b) := by
  have h := foldl_mulRound_refMulBy3 b [0, 1, 2, 3, 4, 5, 6, 7] (0, a)
  simp only [show refMulBy3 0 = 0 by decide] at h
  exact congrArg Prod.fst h

theorem one_refMul (b : Byte) : refMul constOne b = b := by revert b; decide +kernel

/-- Multiplying by `3^k` is multiplying by 3 `k` times. -/
theorem refMul_walkP (k : Nat) (b : Byte) : refMul (walkP k) b = refMulBy3^[k] b := by
  induction k with
  | zero => exact one_refMul b
  | succ k ih => rw [walkP, refMul_refMulBy3, ih, Function.iterate_succ_apply']

end Sys2Proof.Machine
end

