-- ==== Sys2Proof/Laws/State.lean ====
section
/-! SUPPORT. What each named update leaves in each field of the state, one lemma per field and update. -/

namespace Sys2Proof.Machine

@[simp] theorem respond_p (s : State) (st : Status) (d : Byte) : (respond s st d).p = s.p := rfl
@[simp] theorem respond_q (s : State) (st : Status) (d : Byte) : (respond s st d).q = s.q := rfl
@[simp] theorem respond_phase (s : State) (st : Status) (d : Byte) : (respond s st d).phase = s.phase := rfl
@[simp] theorem respond_sbox (s : State) (st : Status) (d : Byte) : (respond s st d).sbox = s.sbox := rfl
@[simp] theorem respond_sboxInverse (s : State) (st : Status) (d : Byte) : (respond s st d).sboxInverse = s.sboxInverse := rfl
@[simp] theorem respond_gf (s : State) (st : Status) (d : Byte) : (respond s st d).gf = s.gf := rfl
@[simp] theorem respond_turns (s : State) (st : Status) (d : Byte) : (respond s st d).turns = s.turns := rfl
@[simp] theorem respond_cmds (s : State) (st : Status) (d : Byte) : (respond s st d).cmds = s.cmds := rfl
@[simp] theorem respond_rsp (s : State) (st : Status) (d : Byte) : (respond s st d).rsp = some (responseWord st d) := rfl
@[simp] theorem respond_aff (s : State) (st : Status) (d : Byte) : (respond s st d).aff = s.aff := rfl
@[simp] theorem respond_epoch (s : State) (st : Status) (d : Byte) : (respond s st d).epoch = s.epoch := rfl
@[simp] theorem respond_tick (s : State) (st : Status) (d : Byte) : (respond s st d).tick = s.tick := rfl

@[simp] theorem respondIllegal_p (s : State) : (respondIllegal s).p = s.p := rfl
@[simp] theorem respondIllegal_q (s : State) : (respondIllegal s).q = s.q := rfl
@[simp] theorem respondIllegal_phase (s : State) : (respondIllegal s).phase = s.phase := rfl
@[simp] theorem respondIllegal_sbox (s : State) : (respondIllegal s).sbox = s.sbox := rfl
@[simp] theorem respondIllegal_sboxInverse (s : State) : (respondIllegal s).sboxInverse = s.sboxInverse := rfl
@[simp] theorem respondIllegal_gf (s : State) : (respondIllegal s).gf = s.gf := rfl
@[simp] theorem respondIllegal_turns (s : State) : (respondIllegal s).turns = s.turns := rfl
@[simp] theorem respondIllegal_cmds (s : State) : (respondIllegal s).cmds = s.cmds := rfl
@[simp] theorem respondIllegal_rsp (s : State) : (respondIllegal s).rsp = some (responseWord .illegal 0x00) := rfl
@[simp] theorem respondIllegal_aff (s : State) : (respondIllegal s).aff = s.aff := rfl
@[simp] theorem respondIllegal_epoch (s : State) : (respondIllegal s).epoch = s.epoch := rfl
@[simp] theorem respondIllegal_tick (s : State) : (respondIllegal s).tick = s.tick := rfl

@[simp] theorem opStat_p (s : State) : (opStat s).p = s.p := rfl
@[simp] theorem opStat_q (s : State) : (opStat s).q = s.q := rfl
@[simp] theorem opStat_phase (s : State) : (opStat s).phase = s.phase := rfl
@[simp] theorem opStat_sbox (s : State) : (opStat s).sbox = s.sbox := rfl
@[simp] theorem opStat_sboxInverse (s : State) : (opStat s).sboxInverse = s.sboxInverse := rfl
@[simp] theorem opStat_gf (s : State) : (opStat s).gf = s.gf := rfl
@[simp] theorem opStat_turns (s : State) : (opStat s).turns = s.turns := rfl
@[simp] theorem opStat_cmds (s : State) : (opStat s).cmds = s.cmds := rfl
@[simp] theorem opStat_rsp (s : State) : (opStat s).rsp = some (responseWord .ok (phaseByte s.phase)) := rfl
@[simp] theorem opStat_aff (s : State) : (opStat s).aff = s.aff := rfl
@[simp] theorem opStat_epoch (s : State) : (opStat s).epoch = s.epoch := rfl
@[simp] theorem opStat_tick (s : State) : (opStat s).tick = s.tick := rfl

@[simp] theorem opInit_p (s : State) : (opInit s).p = constOne := rfl
@[simp] theorem opInit_q (s : State) : (opInit s).q = constOne := rfl
@[simp] theorem opInit_phase (s : State) : (opInit s).phase = s.phase := rfl
@[simp] theorem opInit_sbox (s : State) : (opInit s).sbox = s.sbox := rfl
@[simp] theorem opInit_sboxInverse (s : State) : (opInit s).sboxInverse = s.sboxInverse := rfl
@[simp] theorem opInit_gf (s : State) : (opInit s).gf = s.gf := rfl
@[simp] theorem opInit_turns (s : State) : (opInit s).turns = s.turns := rfl
@[simp] theorem opInit_cmds (s : State) : (opInit s).cmds = s.cmds := rfl
@[simp] theorem opInit_rsp (s : State) : (opInit s).rsp = s.rsp := rfl
@[simp] theorem opInit_aff (s : State) : (opInit s).aff = s.aff := rfl
@[simp] theorem opInit_epoch (s : State) : (opInit s).epoch = s.epoch := rfl
@[simp] theorem opInit_tick (s : State) : (opInit s).tick = s.tick := rfl

@[simp] theorem opAdvp_p (s : State) : (opAdvp s).p = gfMulBy3 s.gf s.p := rfl
@[simp] theorem opAdvp_q (s : State) : (opAdvp s).q = s.q := rfl
@[simp] theorem opAdvp_phase (s : State) : (opAdvp s).phase = s.phase := rfl
@[simp] theorem opAdvp_sbox (s : State) : (opAdvp s).sbox = s.sbox := rfl
@[simp] theorem opAdvp_sboxInverse (s : State) : (opAdvp s).sboxInverse = s.sboxInverse := rfl
@[simp] theorem opAdvp_gf (s : State) : (opAdvp s).gf = s.gf := rfl
@[simp] theorem opAdvp_turns (s : State) : (opAdvp s).turns = s.turns := rfl
@[simp] theorem opAdvp_cmds (s : State) : (opAdvp s).cmds = s.cmds := rfl
@[simp] theorem opAdvp_rsp (s : State) : (opAdvp s).rsp = s.rsp := rfl
@[simp] theorem opAdvp_aff (s : State) : (opAdvp s).aff = s.aff := rfl
@[simp] theorem opAdvp_epoch (s : State) : (opAdvp s).epoch = s.epoch := rfl
@[simp] theorem opAdvp_tick (s : State) : (opAdvp s).tick = s.tick := rfl

@[simp] theorem opAdvq_p (s : State) : (opAdvq s).p = s.p := rfl
@[simp] theorem opAdvq_q (s : State) : (opAdvq s).q = gfMul s.gf s.q constGinv := rfl
@[simp] theorem opAdvq_phase (s : State) : (opAdvq s).phase = s.phase := rfl
@[simp] theorem opAdvq_sbox (s : State) : (opAdvq s).sbox = s.sbox := rfl
@[simp] theorem opAdvq_sboxInverse (s : State) : (opAdvq s).sboxInverse = s.sboxInverse := rfl
@[simp] theorem opAdvq_gf (s : State) : (opAdvq s).gf = s.gf := rfl
@[simp] theorem opAdvq_turns (s : State) : (opAdvq s).turns = s.turns := rfl
@[simp] theorem opAdvq_cmds (s : State) : (opAdvq s).cmds = s.cmds := rfl
@[simp] theorem opAdvq_rsp (s : State) : (opAdvq s).rsp = s.rsp := rfl
@[simp] theorem opAdvq_aff (s : State) : (opAdvq s).aff = s.aff := rfl
@[simp] theorem opAdvq_epoch (s : State) : (opAdvq s).epoch = s.epoch := rfl
@[simp] theorem opAdvq_tick (s : State) : (opAdvq s).tick = s.tick := rfl

@[simp] theorem opAff_p (s : State) : (opAff s).p = s.p := rfl
@[simp] theorem opAff_q (s : State) : (opAff s).q = s.q := rfl
@[simp] theorem opAff_phase (s : State) : (opAff s).phase = s.phase := rfl
@[simp] theorem opAff_sbox (s : State) : (opAff s).sbox = s.sbox := rfl
@[simp] theorem opAff_sboxInverse (s : State) : (opAff s).sboxInverse = s.sboxInverse := rfl
@[simp] theorem opAff_gf (s : State) : (opAff s).gf = s.gf := rfl
@[simp] theorem opAff_turns (s : State) : (opAff s).turns = s.turns := rfl
@[simp] theorem opAff_cmds (s : State) : (opAff s).cmds = s.cmds := rfl
@[simp] theorem opAff_rsp (s : State) : (opAff s).rsp = s.rsp := rfl
@[simp] theorem opAff_aff (s : State) : (opAff s).aff = some (affine s.q) := rfl
@[simp] theorem opAff_epoch (s : State) : (opAff s).epoch = s.epoch := rfl
@[simp] theorem opAff_tick (s : State) : (opAff s).tick = s.tick := rfl

@[simp] theorem opRec_p (s : State) : (opRec s).p = s.p := rfl
@[simp] theorem opRec_q (s : State) : (opRec s).q = s.q := rfl
@[simp] theorem opRec_phase (s : State) : (opRec s).phase = s.phase := rfl
@[simp] theorem opRec_sbox (s : State) : (opRec s).sbox = writeTable s.sbox s.p (affOperand s) := rfl
@[simp] theorem opRec_sboxInverse (s : State) : (opRec s).sboxInverse = writeTable s.sboxInverse (affOperand s) s.p := rfl
@[simp] theorem opRec_gf (s : State) : (opRec s).gf = s.gf := rfl
@[simp] theorem opRec_turns (s : State) : (opRec s).turns = s.turns := rfl
@[simp] theorem opRec_cmds (s : State) : (opRec s).cmds = s.cmds := rfl
@[simp] theorem opRec_rsp (s : State) : (opRec s).rsp = s.rsp := rfl
@[simp] theorem opRec_aff (s : State) : (opRec s).aff = none := rfl
@[simp] theorem opRec_epoch (s : State) : (opRec s).epoch = s.epoch := rfl
@[simp] theorem opRec_tick (s : State) : (opRec s).tick = s.tick := rfl

@[simp] theorem opLoopt_p (s : State) : (opLoopt s).p = s.p := rfl
@[simp] theorem opLoopt_q (s : State) : (opLoopt s).q = s.q := rfl
@[simp] theorem opLoopt_phase (s : State) : (opLoopt s).phase = if s.p = constOne then .fixup else .cycling := rfl
@[simp] theorem opLoopt_sbox (s : State) : (opLoopt s).sbox = s.sbox := rfl
@[simp] theorem opLoopt_sboxInverse (s : State) : (opLoopt s).sboxInverse = s.sboxInverse := rfl
@[simp] theorem opLoopt_gf (s : State) : (opLoopt s).gf = s.gf := rfl
@[simp] theorem opLoopt_turns (s : State) : (opLoopt s).turns = s.turns := rfl
@[simp] theorem opLoopt_cmds (s : State) : (opLoopt s).cmds = s.cmds := rfl
@[simp] theorem opLoopt_rsp (s : State) : (opLoopt s).rsp = s.rsp := rfl
@[simp] theorem opLoopt_aff (s : State) : (opLoopt s).aff = s.aff := rfl
@[simp] theorem opLoopt_epoch (s : State) : (opLoopt s).epoch = s.epoch := rfl
@[simp] theorem opLoopt_tick (s : State) : (opLoopt s).tick = s.tick := rfl

@[simp] theorem opFixzero_p (s : State) : (opFixzero s).p = s.p := rfl
@[simp] theorem opFixzero_q (s : State) : (opFixzero s).q = s.q := rfl
@[simp] theorem opFixzero_phase (s : State) : (opFixzero s).phase = .complete := rfl
@[simp] theorem opFixzero_sbox (s : State) : (opFixzero s).sbox = writeTable s.sbox constZero constFix := rfl
@[simp] theorem opFixzero_sboxInverse (s : State) : (opFixzero s).sboxInverse = writeTable s.sboxInverse constFix constZero := rfl
@[simp] theorem opFixzero_gf (s : State) : (opFixzero s).gf = s.gf := rfl
@[simp] theorem opFixzero_turns (s : State) : (opFixzero s).turns = s.turns := rfl
@[simp] theorem opFixzero_cmds (s : State) : (opFixzero s).cmds = s.cmds := rfl
@[simp] theorem opFixzero_rsp (s : State) : (opFixzero s).rsp = s.rsp := rfl
@[simp] theorem opFixzero_aff (s : State) : (opFixzero s).aff = s.aff := rfl
@[simp] theorem opFixzero_epoch (s : State) : (opFixzero s).epoch = s.epoch := rfl
@[simp] theorem opFixzero_tick (s : State) : (opFixzero s).tick = s.tick := rfl

@[simp] theorem opReset_p (s : State) : (opReset s).p = Config.unspecified (s.epoch + 1) .p := rfl
@[simp] theorem opReset_q (s : State) : (opReset s).q = Config.unspecified (s.epoch + 1) .q := rfl
@[simp] theorem opReset_phase (s : State) : (opReset s).phase = .idle := rfl
@[simp] theorem opReset_sbox (s : State) : (opReset s).sbox = [] := rfl
@[simp] theorem opReset_sboxInverse (s : State) : (opReset s).sboxInverse = [] := rfl
@[simp] theorem opReset_gf (s : State) : (opReset s).gf = s.gf := rfl
@[simp] theorem opReset_turns (s : State) : (opReset s).turns = s.turns := rfl
@[simp] theorem opReset_cmds (s : State) : (opReset s).cmds = s.cmds := rfl
@[simp] theorem opReset_rsp (s : State) : (opReset s).rsp = none := rfl
@[simp] theorem opReset_aff (s : State) : (opReset s).aff = none := rfl
@[simp] theorem opReset_epoch (s : State) : (opReset s).epoch = s.epoch + 1 := rfl
@[simp] theorem opReset_tick (s : State) : (opReset s).tick = s.tick := rfl

@[simp] theorem takeTurn_p (s : State) : (takeTurn s).p = s.p := rfl
@[simp] theorem takeTurn_q (s : State) : (takeTurn s).q = s.q := rfl
@[simp] theorem takeTurn_phase (s : State) : (takeTurn s).phase = s.phase := rfl
@[simp] theorem takeTurn_sbox (s : State) : (takeTurn s).sbox = s.sbox := rfl
@[simp] theorem takeTurn_sboxInverse (s : State) : (takeTurn s).sboxInverse = s.sboxInverse := rfl
@[simp] theorem takeTurn_gf (s : State) : (takeTurn s).gf = s.gf := rfl
@[simp] theorem takeTurn_turns (s : State) : (takeTurn s).turns = s.turns.tail := rfl
@[simp] theorem takeTurn_cmds (s : State) : (takeTurn s).cmds = s.cmds := rfl
@[simp] theorem takeTurn_rsp (s : State) : (takeTurn s).rsp = none := rfl
@[simp] theorem takeTurn_aff (s : State) : (takeTurn s).aff = none := rfl
@[simp] theorem takeTurn_epoch (s : State) : (takeTurn s).epoch = s.epoch := rfl
@[simp] theorem takeTurn_tick (s : State) : (takeTurn s).tick = s.tick + 1 := rfl

@[simp] theorem takeItem_p (s : State) : (takeItem s).p = s.p := rfl
@[simp] theorem takeItem_q (s : State) : (takeItem s).q = s.q := rfl
@[simp] theorem takeItem_phase (s : State) : (takeItem s).phase = s.phase := rfl
@[simp] theorem takeItem_sbox (s : State) : (takeItem s).sbox = s.sbox := rfl
@[simp] theorem takeItem_sboxInverse (s : State) : (takeItem s).sboxInverse = s.sboxInverse := rfl
@[simp] theorem takeItem_gf (s : State) : (takeItem s).gf = s.gf := rfl
@[simp] theorem takeItem_turns (s : State) : (takeItem s).turns = s.turns := rfl
@[simp] theorem takeItem_cmds (s : State) : (takeItem s).cmds = s.cmds.tail := rfl
@[simp] theorem takeItem_rsp (s : State) : (takeItem s).rsp = s.rsp := rfl
@[simp] theorem takeItem_aff (s : State) : (takeItem s).aff = s.aff := rfl
@[simp] theorem takeItem_epoch (s : State) : (takeItem s).epoch = s.epoch := rfl
@[simp] theorem takeItem_tick (s : State) : (takeItem s).tick = s.tick := rfl

/-! ### Which operations leave the block, and which leave the surroundings -/

@[simp] theorem respondIllegal_toBlock (s : State) : (respondIllegal s).toBlock = s.toBlock := rfl
@[simp] theorem opStat_toBlock (s : State) : (opStat s).toBlock = s.toBlock := rfl
@[simp] theorem opAff_toBlock (s : State) : (opAff s).toBlock = s.toBlock := rfl
@[simp] theorem takeTurn_toBlock (s : State) : (takeTurn s).toBlock = s.toBlock := rfl
@[simp] theorem takeItem_toBlock (s : State) : (takeItem s).toBlock = s.toBlock := rfl
@[simp] theorem respond_toBlock (s : State) (st : Status) (d : Byte) : (respond s st d).toBlock = s.toBlock := rfl
@[simp] theorem respondIllegal_toSurroundings (s : State) : (respondIllegal s).toSurroundings = s.toSurroundings := rfl
@[simp] theorem opStat_toSurroundings (s : State) : (opStat s).toSurroundings = s.toSurroundings := rfl
@[simp] theorem opInit_toSurroundings (s : State) : (opInit s).toSurroundings = s.toSurroundings := rfl
@[simp] theorem opAdvp_toSurroundings (s : State) : (opAdvp s).toSurroundings = s.toSurroundings := rfl
@[simp] theorem opAdvq_toSurroundings (s : State) : (opAdvq s).toSurroundings = s.toSurroundings := rfl
@[simp] theorem opAff_toSurroundings (s : State) : (opAff s).toSurroundings = s.toSurroundings := rfl
@[simp] theorem opRec_toSurroundings (s : State) : (opRec s).toSurroundings = s.toSurroundings := rfl
@[simp] theorem opLoopt_toSurroundings (s : State) : (opLoopt s).toSurroundings = s.toSurroundings := rfl
@[simp] theorem opFixzero_toSurroundings (s : State) : (opFixzero s).toSurroundings = s.toSurroundings := rfl
@[simp] theorem respond_toSurroundings (s : State) (st : Status) (d : Byte) :
    (respond s st d).toSurroundings = s.toSurroundings := rfl

end Sys2Proof.Machine
end

