-- ==== Sys2Proof/Laws/Ops.lean ====
section
/-! SUPPORT. What each shared operation and each table operation can do, said once. -/

namespace Sys2Proof.Machine

@[simp] theorem andThen_next (s : State) (f : State → Result) : andThen (.next s) f = f s := rfl

/-! ### Tables -/

/-- Reading after writing: the entry written holds the byte written, and every other entry what it held. -/
theorem lookupCell_insertCell (t : Table) (a : Nat) (v : Byte) (b : Nat) :
    lookupCell (insertCell t a v) b = if b = a then some v else lookupCell t b := by
  induction t with
  | nil => simp only [insertCell, lookupCell]; split <;> split <;> simp_all
  | cons c t ih =>
    simp only [insertCell]
    split
    · simp only [lookupCell]
      by_cases h : b = a <;> grind
    · split
      · simp only [lookupCell]; grind
      · simp only [lookupCell, ih]; grind

theorem readTable_writeTable (t : Table) (i v j : Byte) :
    readTable (writeTable t i v) j = if j = i then some v else readTable t j := by
  simp only [readTable, writeTable, lookupCell_insertCell, BitVec.toNat_inj]

theorem mem_insertCell (t : Table) (a : Nat) (v : Byte) (c : Host.Cell) (h : c ∈ insertCell t a v) :
    c = (a, v) ∨ c ∈ t := by
  induction t with
  | nil => simp_all [insertCell]
  | cons d t ih =>
    simp only [insertCell] at h
    split at h
    · simpa using h
    · split at h
      · simp at h; tauto
      · simp at h ⊢; tauto

/-- Writing keeps the canonical form. -/
theorem insertCell_wf (t : Table) (a : Nat) (v : Byte) (ha : a < 256) (h : tableWf t) : tableWf (insertCell t a v) := by
  refine ⟨?_, fun c hc => ?_⟩
  · obtain ⟨hp, -⟩ := h
    induction t with
    | nil => simp [insertCell]
    | cons d t ih =>
      rw [List.pairwise_cons] at hp
      simp only [insertCell]
      split
      · rename_i hlt
        refine List.pairwise_cons.2 ⟨fun c hc => ?_, List.pairwise_cons.2 hp⟩
        rcases List.mem_cons.1 hc with rfl | hc
        · exact hlt
        · exact hlt.trans (hp.1 c hc)
      · split
        · rename_i heq
          exact List.pairwise_cons.2 ⟨fun c hc => heq ▸ hp.1 c hc, hp.2⟩
        · refine List.pairwise_cons.2 ⟨fun c hc => ?_, ih hp.2⟩
          rcases mem_insertCell t a v c hc with rfl | hc
          · dsimp only; omega
          · exact hp.1 c hc
  · rcases mem_insertCell t a v c hc with rfl | hc
    · exact ha
    · exact h.2 c hc

theorem writeTable_wf (t : Table) (i v : Byte) (h : tableWf t) : tableWf (writeTable t i v) :=
  insertCell_wf t i.toNat v i.isLt h

/-- An index below every listed one holds no value. -/
theorem lookupCell_lt (t : Table) (a : Nat) (h : ∀ c ∈ t, a < c.1) : lookupCell t a = none := by
  induction t with
  | nil => rfl
  | cons c t ih =>
    simp only [lookupCell]
    rw [if_neg (by have := h c (by simp); omega)]
    exact ih fun d hd => h d (by simp [hd])

/-! ### The parts of STEP -/

/-- The pair (p', a) that a STEP of `s` records (R76). -/
theorem step_parts (s : State) :
    opLoopt (opRec (opAff (opAdvq (opAdvp s)))) =
      { s with
        p := gfMulBy3 s.gf s.p
        q := gfMul s.gf s.q constGinv
        sbox := writeTable s.sbox (gfMulBy3 s.gf s.p) (affine (gfMul s.gf s.q constGinv))
        sboxInverse := writeTable s.sboxInverse (affine (gfMul s.gf s.q constGinv)) (gfMulBy3 s.gf s.p)
        phase := if gfMulBy3 s.gf s.p = constOne then .fixup else .cycling
        aff := none } := rfl

/-- Where STEP and FIXZERO are enabled (R52). -/
theorem stepEnabled_iff (ph : Phase) : stepEnabled ph = true ↔ ph = .armed ∨ ph = .cycling := by cases ph <;> decide

theorem fixzeroEnabled_iff (ph : Phase) : fixzeroEnabled ph = true ↔ ph = .fixup := by cases ph <;> decide

/-- What SEQ's selector is in each phase (R52). -/
theorem seqSelect_eq (s : State) :
    seqSelect s = match s.phase with
      | .idle | .complete => .error .seqIdle
      | .armed | .cycling => .ok .step
      | .fixup => .ok .fixzero := by
  unfold seqSelect; cases s.phase <;> rfl

/-- What a meaning of SEQ does where `phase` selects it (R76, R95). -/
theorem execStep_next (s : State) (h : s.phase = .armed ∨ s.phase = .cycling) :
    execStep s = .next (opLoopt (opRec (opAff (opAdvq (opAdvp s))))) := if_pos ((stepEnabled_iff _).2 h)

theorem execFixzero_next (s : State) (h : s.phase = .fixup) : execFixzero s = .next (opFixzero s) :=
  if_pos ((fixzeroEnabled_iff _).2 h)

/-! ### Responses -/

/-- R108: `STAT` answers `0x0006` exactly in `COMPLETE`. -/
theorem stat_ready_iff (ph : Phase) : responseWord .ok (phaseByte ph) = readyResponse ↔ ph = .complete := by
  cases ph <;> decide

/-- Everything GEN can do (R105). -/
theorem execGen_cases (idx : Byte) (s : State) :
    s.phase = .idle ∧ execGen idx s = .next (opStat { opInit s with phase := .armed }) ∨
    s.phase ≠ .idle ∧ execGen idx s = .next (opStat s) := by
  by_cases h : s.phase = .idle
  · exact .inl ⟨h, if_pos h⟩
  · exact .inr ⟨h, if_neg h⟩

/-- Everything RDS and RDI can do (R106, R107): nothing but the response changes. -/
theorem execRds_respond (idx : Byte) (s : State) : ∃ st d, execRds idx s = .next (respond s st d) := by
  unfold execRds; split <;> exact ⟨_, _, rfl⟩

theorem execRdi_respond (idx : Byte) (s : State) : ∃ st d, execRdi idx s = .next (respond s st d) := by
  unfold execRdi; split <;> exact ⟨_, _, rfl⟩

/-- Everything WAITRDY can do (R57). -/
theorem execWaitrdy_cases (s : State) :
    s.phase = .complete ∧ execWaitrdy s = .next (opStat s) ∨
    s.phase ≠ .complete ∧ execWaitrdy s = .next { opStat s with cmds := .waitRdy :: s.cmds } := by
  by_cases h : s.phase = .complete
  · refine .inl ⟨h, ?_⟩
    simp [execWaitrdy, h, (stat_ready_iff .complete).2 rfl]
  · refine .inr ⟨h, ?_⟩
    simp only [execWaitrdy, opStat_rsp, Option.some.injEq, stat_ready_iff, h, if_false, opStat_cmds]

/-- Every reserved row has the one effect of R109. -/
theorem exec_reserved (i : Instr) (s : State) (h : isReserved i = true) : exec i s = .next (respondIllegal s) := by
  cases i <;> first | rfl | cases h

/-- Everything an operation selected by a command word can do: it answers, and nothing else changes unless it is GEN in
`IDLE` (R103 to R109). -/
theorem exec_decodeCmd_cases (w : Word) (s : State) :
    (∃ st d, exec (decodeCmd w) s = .next (respond s st d)) ∨
    opcOf w = 0x01 ∧ s.phase = .idle ∧ exec (decodeCmd w) s = .next (opStat { opInit s with phase := .armed }) := by
  rcases decodeCmd_cases w with ⟨-, e⟩ | ⟨h, e⟩ | ⟨-, e⟩ | ⟨-, e⟩ | ⟨-, e⟩ | ⟨-, e⟩
  · exact .inl ⟨_, _, by rw [e]; rfl⟩
  · rcases execGen_cases (idxOf w) s with ⟨hi, e'⟩ | ⟨-, e'⟩
    · exact .inr ⟨h, hi, by rw [e]; exact e'⟩
    · exact .inl ⟨_, _, by rw [e]; exact e'⟩
  · rw [e]; exact .inl (execRds_respond _ _)
  · rw [e]; exact .inl (execRdi_respond _ _)
  · exact .inl ⟨_, _, by rw [e]; rfl⟩
  · exact .inl ⟨.illegal, 0x00, by rw [e]; exact exec_reserved _ s (isReserved_decodeReserved _ _)⟩

end Sys2Proof.Machine
end

