-- ==== Sys2Proof/Laws/PerInstr.lean ====
section
/-! SUPPORT. One statement per operation about its place in the opcode table. -/

namespace Sys2Proof.Laws.RowOfEncoding

/-- The selector of a well-formed operation matches the row of its own mnemonic, and that row is one the decoder does not skip
(30_encoding R48, R50, R52); an operation without a selector stands in a skipped row (R57, R58). -/
def Statement (i : Instr) : Prop :=
  Instr.wellFormed i = true →
    match encode i with
    | some e => ∃ r ∈ commandRows ++ sequencerRows, r.mnemonic = mnemonicOf i ∧ rowSelects r e = true
    | none => ∃ r ∈ skippedRows, r.mnemonic = mnemonicOf i

/-- A command word whose operation code matches a row's high byte matches the row, whose low byte is all ignored. -/
theorem opcode_selects (mn : String) (f : Format) (p m opc idx : Byte) (h : opc &&& m = p) :
    rowSelects ⟨mn, f, 16, commandWord p 0x00, commandWord m 0x00⟩ (.cmd (commandWord opc idx)) = true := by
  simp [rowSelects, commandWord_and, h]

theorem nop (idx : Byte) : Statement (.nop idx) := fun _ =>
  ⟨_, (by decide : (⟨"NOP", .cmd, 16, commandWord 0x00 0x00, commandWord 0xFF 0x00⟩ : Row) ∈ _), rfl, opcode_selects _ _ _ _ _ _ (by decide)⟩

theorem gen (idx : Byte) : Statement (.gen idx) := fun _ =>
  ⟨_, (by decide : (⟨"GEN", .cmd, 16, commandWord 0x01 0x00, commandWord 0xFF 0x00⟩ : Row) ∈ _), rfl, opcode_selects _ _ _ _ _ _ (by decide)⟩

theorem rds (idx : Byte) : Statement (.rds idx) := fun _ =>
  ⟨_, (by decide : (⟨"RDS", .cmd, 16, commandWord 0x02 0x00, commandWord 0xFF 0x00⟩ : Row) ∈ _), rfl, opcode_selects _ _ _ _ _ _ (by decide)⟩

theorem rdi (idx : Byte) : Statement (.rdi idx) := fun _ =>
  ⟨_, (by decide : (⟨"RDI", .cmd, 16, commandWord 0x03 0x00, commandWord 0xFF 0x00⟩ : Row) ∈ _), rfl, opcode_selects _ _ _ _ _ _ (by decide)⟩

theorem stat (idx : Byte) : Statement (.stat idx) := fun _ =>
  ⟨_, (by decide : (⟨"STAT", .cmd, 16, commandWord 0x04 0x00, commandWord 0xFF 0x00⟩ : Row) ∈ _), rfl, opcode_selects _ _ _ _ _ _ (by decide)⟩

theorem rsvd05 (idx : Byte) : Statement (.rsvd05 idx) := fun _ =>
  ⟨_, (by decide : (⟨"RSVD_05", .rsv, 16, commandWord 0x05 0x00, commandWord 0xFF 0x00⟩ : Row) ∈ _), rfl, opcode_selects _ _ _ _ _ _ (by decide)⟩

theorem rsvd0607 (opc idx : Byte) : Statement (.rsvd0607 opc idx) := fun h =>
  ⟨_, (by decide : (⟨"RSVD_06_07", .rsv, 16, commandWord 0x06 0x00, commandWord 0xFE 0x00⟩ : Row) ∈ _), rfl,
    opcode_selects _ _ _ _ _ _ ((by decide : ∀ o : Byte, inRange 0x06 0x07 o = true → o &&& 0xFE = 0x06) opc h)⟩

theorem rsvd080F (opc idx : Byte) : Statement (.rsvd080F opc idx) := fun h =>
  ⟨_, (by decide : (⟨"RSVD_08_0F", .rsv, 16, commandWord 0x08 0x00, commandWord 0xF8 0x00⟩ : Row) ∈ _), rfl,
    opcode_selects _ _ _ _ _ _ ((by decide : ∀ o : Byte, inRange 0x08 0x0F o = true → o &&& 0xF8 = 0x08) opc h)⟩

theorem rsvd101F (opc idx : Byte) : Statement (.rsvd101F opc idx) := fun h =>
  ⟨_, (by decide : (⟨"RSVD_10_1F", .rsv, 16, commandWord 0x10 0x00, commandWord 0xF0 0x00⟩ : Row) ∈ _), rfl,
    opcode_selects _ _ _ _ _ _ ((by decide : ∀ o : Byte, inRange 0x10 0x1F o = true → o &&& 0xF0 = 0x10) opc h)⟩

theorem rsvd203F (opc idx : Byte) : Statement (.rsvd203F opc idx) := fun h =>
  ⟨_, (by decide : (⟨"RSVD_20_3F", .rsv, 16, commandWord 0x20 0x00, commandWord 0xE0 0x00⟩ : Row) ∈ _), rfl,
    opcode_selects _ _ _ _ _ _ ((by decide : ∀ o : Byte, inRange 0x20 0x3F o = true → o &&& 0xE0 = 0x20) opc h)⟩

theorem rsvd407F (opc idx : Byte) : Statement (.rsvd407F opc idx) := fun h =>
  ⟨_, (by decide : (⟨"RSVD_40_7F", .rsv, 16, commandWord 0x40 0x00, commandWord 0xC0 0x00⟩ : Row) ∈ _), rfl,
    opcode_selects _ _ _ _ _ _ ((by decide : ∀ o : Byte, inRange 0x40 0x7F o = true → o &&& 0xC0 = 0x40) opc h)⟩

theorem rsvd80FF (opc idx : Byte) : Statement (.rsvd80FF opc idx) := fun h =>
  ⟨_, (by decide : (⟨"RSVD_80_FF", .rsv, 16, commandWord 0x80 0x00, commandWord 0x80 0x00⟩ : Row) ∈ _), rfl,
    opcode_selects _ _ _ _ _ _ ((by decide : ∀ o : Byte, inRange 0x80 0xFF o = true → o &&& 0x80 = 0x80) opc h)⟩

theorem step : Statement .step := fun _ =>
  (by decide : ∃ r ∈ commandRows ++ sequencerRows, r.mnemonic = "STEP" ∧ rowSelects r (.seq 0b001#3) = true)

theorem fixzero : Statement .fixzero := fun _ =>
  (by decide : ∃ r ∈ commandRows ++ sequencerRows, r.mnemonic = "FIXZERO" ∧ rowSelects r (.seq 0b010#3) = true)

theorem init : Statement .init := fun _ => (by decide : ∃ r ∈ skippedRows, r.mnemonic = "INIT")

theorem advp : Statement .advp := fun _ => (by decide : ∃ r ∈ skippedRows, r.mnemonic = "ADVP")

theorem advq : Statement .advq := fun _ => (by decide : ∃ r ∈ skippedRows, r.mnemonic = "ADVQ")

theorem aff : Statement .aff := fun _ => (by decide : ∃ r ∈ skippedRows, r.mnemonic = "AFF")

theorem record : Statement .record := fun _ => (by decide : ∃ r ∈ skippedRows, r.mnemonic = "REC")

theorem loopt : Statement .loopt := fun _ => (by decide : ∃ r ∈ skippedRows, r.mnemonic = "LOOPT")

theorem waitrdy : Statement .waitrdy := fun _ => (by decide : ∃ r ∈ skippedRows, r.mnemonic = "WAITRDY")

end Sys2Proof.Laws.RowOfEncoding
end

