-- ==== Sys2Proof/Laws/Step.lean ====
section
/-! SUPPORT. Everything one step of the machine can do, said once. -/

namespace Sys2Proof.Machine

/-- The state in which HOST's command is performed: its turn and its item used up. -/
abbrev hostState (s : State) : State := takeItem (takeTurn s)

/-- One step, by whose turn it is: a reset event; an idle turn of SEQ, a STEP or the FIXZERO of SEQ; a command of HOST that
answers, a WAITRDY that is issued again, or the GEN that starts a generation. -/
theorem step_cases (s : State) :
    nextAgent s = .reset ∧ step s = .next (opReset (takeTurn s)) ∨
    nextAgent s = .seq ∧ (s.phase = .idle ∨ s.phase = .complete) ∧ step s = .next (takeTurn s) ∨
    nextAgent s = .seq ∧ (s.phase = .armed ∨ s.phase = .cycling) ∧
      step s = .next (opLoopt (opRec (opAff (opAdvq (opAdvp (takeTurn s)))))) ∨
    nextAgent s = .seq ∧ s.phase = .fixup ∧ step s = .next (opFixzero (takeTurn s)) ∨
    nextAgent s = .host ∧ isGen (itemInstr (nextItem s)) = true ∧ s.phase = .idle ∧
      step s = .next (opStat { opInit (hostState s) with phase := .armed }) ∨
    nextAgent s = .host ∧ nextItem s = .waitRdy ∧ s.phase ≠ .complete ∧
      step s = .next { opStat (hostState s) with cmds := .waitRdy :: s.cmds.tail } ∨
    nextAgent s = .host ∧ (isGen (itemInstr (nextItem s)) = true → s.phase ≠ .idle) ∧
      ∃ st d, step s = .next (respond (hostState s) st d) := by
  unfold step
  cases nextAgent s with
  | reset => exact .inl ⟨rfl, rfl⟩
  | seq =>
    refine .inr ?_
    rw [seqSelect_eq]
    cases h : s.phase with
    | idle => exact .inl ⟨rfl, .inl rfl, rfl⟩
    | complete => exact .inl ⟨rfl, .inr rfl, rfl⟩
    | armed => exact .inr (.inl ⟨rfl, .inl rfl, execStep_next (takeTurn s) (.inl h)⟩)
    | cycling => exact .inr (.inl ⟨rfl, .inr rfl, execStep_next (takeTurn s) (.inr h)⟩)
    | fixup => exact .inr (.inr (.inl ⟨rfl, rfl, execFixzero_next (takeTurn s) h⟩))
  | host =>
    refine .inr (.inr (.inr (.inr ?_)))
    cases hi : nextItem s with
    | waitRdy =>
      rcases execWaitrdy_cases (hostState s) with ⟨-, e⟩ | ⟨h, e⟩
      · exact .inr (.inr ⟨rfl, (fun hg => by cases hg), _, _, e⟩)
      · exact .inr (.inl ⟨rfl, rfl, h, e⟩)
    | word w =>
      by_cases hg : isGen (decodeCmd w) = true
      · obtain ⟨idx, e⟩ : ∃ idx, decodeCmd w = .gen idx := by
          cases hw : decodeCmd w <;> simp_all [isGen]
        rcases execGen_cases idx (hostState s) with ⟨h, e'⟩ | ⟨h, e'⟩
        · exact .inl ⟨rfl, hg, h, by rw [itemInstr, e]; exact e'⟩
        · exact .inr (.inr ⟨rfl, fun _ => h, _, _, by rw [itemInstr, e]; exact e'⟩)
      · rcases exec_decodeCmd_cases w (hostState s) with ⟨st, d, e⟩ | ⟨ho, -, -⟩
        · exact .inr (.inr ⟨rfl, fun h => absurd h hg, st, d, e⟩)
        · refine absurd ?_ hg
          rcases decodeCmd_cases w with ⟨h, -⟩ | ⟨-, e⟩ | ⟨h, -⟩ | ⟨h, -⟩ | ⟨h, -⟩ | ⟨h, -⟩
          · rw [ho] at h; cases h
          · rw [e]; rfl
          all_goals rw [ho] at h; exact absurd h (by decide)

end Sys2Proof.Machine
end

