-- ==== Sys2Proof/Laws/Run.lean ====
section
/-! SUPPORT. One step of a run: how `Host.Core.run` unfolds, and what a listed turn does. -/

namespace Sys2Proof.Machine

@[simp] theorem run_zero (s : State) : Host.Core.run Sys2Proof.core 0 s = .next s := rfl

theorem coreRun_succ (M : Host.Core) (n : Nat) (s t : M.State) (h : M.step s = .next t) :
    M.run (n + 1) s = M.run n t := by
  rw [Host.Core.run, h]

theorem run_succ_of_step (n : Nat) (s t : State) (h : step s = .next t) :
    Host.Core.run Sys2Proof.core (n + 1) s = Host.Core.run Sys2Proof.core n t :=
  coreRun_succ Sys2Proof.core n s t h

/-- A step uses up the turn listed first. -/
theorem step_turns (s t : State) (a : Agent) (l : List Agent) (hl : s.turns = a :: l) (h : step s = .next t) :
    nextAgent s = a ∧ t.turns = l := by
  refine ⟨by simp [nextAgent, hl], ?_⟩
  rcases step_cases s with ⟨-, e⟩ | ⟨-, -, e⟩ | ⟨-, -, e⟩ | ⟨-, -, e⟩ | ⟨-, -, -, e⟩ | ⟨-, -, -, e⟩ | ⟨-, -, _, _, e⟩ <;>
    rw [e] at h <;> cases h <;> simp [hl]

end Sys2Proof.Machine
end

