-- ==== Sys2Proof/Tests/Slice0.lean ====
section
/-! SUPPORT. The model's own tests: terms that the well-formedness check refuses, words written out from the spec's encodings,
one step of each operation on values of 95_test_vectors, and for each statement with hypotheses a state that meets them. -/

namespace Sys2Proof.Tests

open Sys2Proof.Machine

/-! ### Helpers -/

/-- The next state of an outcome. -/
def nextOf : Result → Option State
  | .next s => some s
  | _ => none

/-- One field of the next state. -/
def peek {α : Type} (f : State → α) (r : Result) : Option α := (nextOf r).map f

/-- A small state: the default collaborator, nothing listed, given phase and cursors. -/
def small (ph : Phase) (p q : Byte) : State := { State.reset with phase := ph, p := p, q := q }

/-- The same with HOST's turn next and a word to present. -/
def hostTurn (s : State) (w : Word) : State := { s with turns := [.host], cmds := [.word w] }

/-- The same with SEQ's turn next. -/
def seqTurn (s : State) : State := { s with turns := [.seq] }

/-- COMPLETE with three entries of each table. -/
def published : State :=
  { small .complete 0x01 0x01 with
    sbox := [(0x00, 0x63), (0x52, 0x00), (0x53, 0xED)]
    sboxInverse := [(0x00, 0x52), (0x63, 0x00), (0xED, 0x53)] }

/-- A collaborator whose `mulBy3` gives 0x00 (R138). -/
def zeroGf : GF := .tables (Vector.replicate 256 0x00) (Vector.replicate 256 (Vector.replicate 256 0x00))

/-- A collaborator that is the identity in its first argument (90_conflicts C7). -/
def identityGf : GF :=
  .tables (Vector.ofFn fun i => BitVec.ofFin i) (Vector.ofFn fun i => Vector.replicate 256 (BitVec.ofFin i))

/-! ### Ill-formed terms, one for each check (R50) -/

theorem test_illformed_rsvd0607 : (Instr.rsvd0607 0x08 0x00).wellFormed = false := by decide
theorem test_illformed_rsvd080F : (Instr.rsvd080F 0x07 0x00).wellFormed = false := by decide
theorem test_illformed_rsvd101F : (Instr.rsvd101F 0x20 0x00).wellFormed = false := by decide
theorem test_illformed_rsvd203F : (Instr.rsvd203F 0x40 0x00).wellFormed = false := by decide
theorem test_illformed_rsvd407F : (Instr.rsvd407F 0x3F 0x00).wellFormed = false := by decide
theorem test_illformed_rsvd80FF : (Instr.rsvd80FF 0x7F 0x00).wellFormed = false := by decide

/-! ### Decoding (30_encoding sections 3 to 6, 95_test_vectors 5.5) -/

theorem test_decode_nop : decodeCmd 0b0000000010100101#16 = .nop 0xA5 := by decide
theorem test_decode_gen : decodeCmd 0b0000000111111111#16 = .gen 0xFF := by decide
theorem test_decode_rds : decodeCmd 0b0000001001010011#16 = .rds 0x53 := by decide
theorem test_decode_rdi : decodeCmd 0b0000001111101101#16 = .rdi 0xED := by decide
theorem test_decode_stat : decodeCmd 0b0000010011111111#16 = .stat 0xFF := by decide
theorem test_decode_rsvd05 : decodeCmd 0b0000010100000000#16 = .rsvd05 0x00 := by decide
theorem test_decode_rsvd0607 : decodeCmd 0b0000011110000001#16 = .rsvd0607 0x07 0x81 := by decide
theorem test_decode_rsvd080F : decodeCmd 0b0000100000000001#16 = .rsvd080F 0x08 0x01 := by decide
theorem test_decode_rsvd101F : decodeCmd 0b0001111100000001#16 = .rsvd101F 0x1F 0x01 := by decide
theorem test_decode_rsvd203F : decodeCmd 0b0010000000000001#16 = .rsvd203F 0x20 0x01 := by decide
theorem test_decode_rsvd407F : decodeCmd 0b0111111100000001#16 = .rsvd407F 0x7F 0x01 := by decide
theorem test_decode_rsvd80FF : decodeCmd 0b1111111111111111#16 = .rsvd80FF 0xFF 0xFF := by decide
theorem test_decode_step : decodeTableWord 8 0b001 = some .step ∧ decodeTableWord 8 0b011 = some .step := by decide
theorem test_decode_fixzero : decodeTableWord 8 0b010 = some .fixzero := by decide
theorem test_decode_idle : decode (.seq 0b000#3) = .error .seqIdle ∧ decode (.seq 0b110#3) = .error .seqIdle := ⟨rfl, rfl⟩
theorem test_decode_illegal : decode (.seq 0b101#3) = .error .illegalPhase := rfl
/-- R56's listing. -/
theorem test_assemble : assemble (.rds 0x53) = some 0x0253 ∧ assemble (.rdi 0xED) = some 0x03ED := by decide
theorem test_encode_boundary : encode (.stat 0xFF) = some (.cmd 0x04FF) ∧ encode (.rsvd05 0x00) = some (.cmd 0x0500) := by
  decide

/-! ### Arithmetic (95_test_vectors 5.1, 5.2) -/

theorem test_xtime : xtime 0x57 = 0xAE ∧ xtime 0xAE = 0x47 ∧ xtime 0x80 = 0x1B ∧ xtime 0xFF = 0xE5 := by decide
theorem test_mulBy3 : refMulBy3 0x7F = 0x81 ∧ refMulBy3 0x80 = 0x9B ∧ refMulBy3 0xF6 = 0x01 := by decide
theorem test_mul : refMul 0x57 0x13 = 0xFE ∧ refMul 0x57 0x83 = 0xC1 ∧ refMul 0x80 0xF6 = 0x89 ∧ refMul 0x53 0xCA = 0x01 := by
  decide
theorem test_rotl8 : rotl8 0x80 1 = 0x01 ∧ rotl8 0xF6 4 = 0x6F ∧ rotl8 0xCA 3 = 0x56 := by decide
theorem test_affine : affine 0xF6 = 0x7B ∧ affine 0x05 = 0x00 ∧ affine 0x80 = 0xEC ∧ affine 0xCA = 0xED := by decide

/-! ### One step of each operation -/

/-- 95_test_vectors 5.5: `00A5 -> 0000`, through the whole step. -/
theorem test_nop : peek (·.rsp) (step (hostTurn (small .fixup 0x01 0x01) 0x00A5)) = some (some 0x0000) := by decide
/-- R105: GEN in IDLE. -/
theorem test_gen_idle : peek (fun t => (t.p, t.q, t.phase, t.rsp)) (step (hostTurn (small .idle 0x5A 0xA5) 0x01FF)) =
    some (0x01, 0x01, .armed, some 0x0001) := by decide
/-- Program 2: a second GEN is ignored. -/
theorem test_gen_cycling : peek (fun t => (t.p, t.q, t.phase, t.rsp)) (step (hostTurn (small .cycling 0x03 0xF6) 0x0100)) =
    some (0x03, 0xF6, .cycling, some 0x0003) := by decide
theorem test_rds_complete : peek (·.rsp) (step (hostTurn published 0x0253)) = some (some 0x00ED) := by decide
/-- 95_test_vectors 5.5: refused in FIXUP, though the entry is written. -/
theorem test_rds_fixup : peek (·.rsp) (step (hostTurn { published with phase := .fixup } 0x0252)) = some (some 0x0100) := by
  decide
theorem test_rdi_complete : peek (·.rsp) (step (hostTurn published 0x03ED)) = some (some 0x0053) := by decide
theorem test_rdi_armed : peek (·.rsp) (step (hostTurn (small .armed 0x01 0x01) 0x03ED)) = some (some 0x0100) := by decide
theorem test_stat : peek (·.rsp) (step (hostTurn published 0x04A5)) = some (some 0x0006) := by decide
theorem test_rsvd05 : peek (·.rsp) (step (hostTurn published 0x0500)) = some (some 0x0200) := by decide
theorem test_rsvd0607 : peek (·.rsp) (exec (.rsvd0607 0x06 0x00) published) = some (some 0x0200) := by decide
theorem test_rsvd080F : peek (·.rsp) (exec (.rsvd080F 0x0F 0x00) published) = some (some 0x0200) := by decide
theorem test_rsvd101F : peek (·.rsp) (exec (.rsvd101F 0x10 0x00) published) = some (some 0x0200) := by decide
theorem test_rsvd203F : peek (·.rsp) (exec (.rsvd203F 0x3F 0x00) published) = some (some 0x0200) := by decide
theorem test_rsvd407F : peek (·.rsp) (exec (.rsvd407F 0x40 0x00) published) = some (some 0x0200) := by decide
theorem test_rsvd80FF : peek (·.rsp) (step (hostTurn published 0xFFFF)) = some (some 0x0200) := by decide
/-- 95_test_vectors 5.3, first step. -/
theorem test_step_first :
    peek (fun t => (t.p, t.q, t.phase)) (step (seqTurn (small .armed 0x01 0x01))) = some (0x03, 0xF6, .cycling) ∧
    peek (fun t => (t.sbox, t.sboxInverse)) (step (seqTurn (small .armed 0x01 0x01))) = some ([(0x03, 0x7B)], [(0x7B, 0x03)]) := by
  decide
/-- 95_test_vectors 5.3, 255th step. -/
theorem test_step_last :
    peek (fun t => (t.p, t.q, t.phase)) (step (seqTurn (small .cycling 0xF6 0x03))) = some (0x01, 0x01, .fixup) ∧
    peek (fun t => (t.sbox, t.sboxInverse)) (step (seqTurn (small .cycling 0xF6 0x03))) = some ([(0x01, 0x7C)], [(0x7C, 0x01)]) := by
  decide
/-- 95_test_vectors 5.4. -/
theorem test_fixzero : peek (fun t => (t.phase, t.sbox, t.sboxInverse)) (step (seqTurn (small .fixup 0x01 0x01))) =
    some (.complete, [(0x00, 0x63)], [(0x63, 0x00)]) := by decide
theorem test_step_refused_idle : nextOf (exec .step (small .idle 0x01 0x01)) = none := by decide
theorem test_seq_idle_turn : peek (fun t => (t.phase, t.turns)) (step (seqTurn published)) = some (.complete, []) := by decide
theorem test_init : peek (fun t => (t.p, t.q)) (exec .init (small .idle 0x77 0x88)) = some (0x01, 0x01) := by decide
/-- R72's example. -/
theorem test_advp : peek (fun t => (t.p, t.q)) (exec .advp (small .cycling 0xFF 0x1C)) = some (0x1A, 0x1C) := by decide
/-- R73's example. -/
theorem test_advq : peek (fun t => (t.p, t.q)) (exec .advq (small .cycling 0xFF 0x1C)) = some (0xFF, 0xFD) := by decide
/-- R85's example. -/
theorem test_aff : peek (fun t => (t.q, t.aff)) (exec .aff (small .cycling 0x03 0xF6)) = some (0xF6, some 0x7B) := by decide
/-- 95_test_vectors 5.4: a stored 0x00 is an ordinary entry. -/
theorem test_record : peek (fun t => (t.sbox, t.sboxInverse, t.aff))
    (exec .record { small .cycling 0x52 0x05 with aff := some 0x00 }) = some ([(0x52, 0x00)], [(0x00, 0x52)], none) := by decide
theorem test_loopt : peek (·.phase) (exec .loopt (small .cycling 0x01 0x07)) = some .fixup ∧
    peek (·.phase) (exec .loopt (small .armed 0xF6 0x01)) = some .cycling := by decide
theorem test_waitrdy_waits : peek (fun t => (t.rsp, t.cmds)) (exec .waitrdy (small .cycling 0x03 0xF6)) =
    some (some 0x0003, [.waitRdy]) := by decide
theorem test_waitrdy_ends : peek (fun t => (t.rsp, t.cmds)) (exec .waitrdy published) = some (some 0x0006, []) := by decide
/-- R130: after a reset event nothing is listed and the phase is IDLE. -/
theorem test_reset_event : peek (fun t => (t.phase, t.sbox, t.sboxInverse)) (step { published with turns := [.reset] }) =
    some (.idle, [], []) := by decide
theorem test_place_command : peek (·.rsp) (step (State.reset.withFetchWord 16 0x0400)) = some (some 0x0000) := by decide
theorem test_place_selector : peek (·.phase) (step (State.reset.withFetchWord 8 0b010)) = some .complete := by decide

/-! ### Witnesses: states that meet the hypotheses of the statements -/

/-- States of the walk, one in each phase. -/
def walkArmed : State := small .armed 0x01 0x01
def walkCycling : State :=
  { small .cycling 0x03 0xF6 with sbox := [(0x03, 0x7B)], sboxInverse := [(0x7B, 0x03)] }
/-- A state whose tables are given; the finished ones are in `walk_fixup` and `walk_complete`. -/
def holding (ph : Phase) (sb si : Table) : State := { small ph 0x01 0x01 with sbox := sb, sboxInverse := si }
theorem walk_of_fixup (sb si : Table) (h : sb = walkSbox 255) (h' : si = walkInverse 255) : Walk (holding .fixup sb si) :=
  ⟨rfl, rfl, h, h'⟩
theorem walk_of_complete (sb si : Table) (h : sb = finalSbox) (h' : si = finalInverse) : Walk (holding .complete sb si) :=
  ⟨rfl, rfl, h, h'⟩

theorem zeroGf_mulBy3 (x : Byte) : gfMulBy3 zeroGf x = 0x00 := Vector.getElem_replicate _
theorem identityGf_mulBy3 (x : Byte) : gfMulBy3 identityGf x = x := Vector.getElem_ofFn _
theorem identityGf_mul (c x : Byte) : gfMul identityGf x c = x := by
  show ((Vector.ofFn fun i => Vector.replicate 256 (BitVec.ofFin i))[x.toNat]'x.isLt)[c.toNat]'c.isLt = x
  rw [Vector.getElem_ofFn, Vector.getElem_replicate]
  rfl
theorem no_reset : Agent.reset ∉ List.replicate 256 Agent.seq := fun h => nomatch List.eq_of_mem_replicate h
theorem ref_conforms : gfConforming .ref := ⟨fun _ => rfl, fun _ => rfl⟩
theorem walk_armed : Walk walkArmed ∧ walkArmed.phase = .armed := ⟨⟨rfl, rfl, rfl, rfl⟩, rfl⟩
theorem walk_cycling : Walk walkCycling ∧ walkCycling.phase = .cycling :=
  ⟨⟨1, by decide, by decide, by decide, by decide, by decide, by decide⟩, rfl⟩
theorem walk_fixup : Walk (holding .fixup (walkSbox 255) (walkInverse 255)) := walk_of_fixup _ _ rfl rfl
theorem walk_complete : Walk (holding .complete finalSbox finalInverse) := walk_of_complete _ _ rfl rfl
theorem walk_idle : Walk (small .idle 0x5A 0xA5) := ⟨rfl, rfl⟩

theorem witness_DecodeUndoesEncode :
    (Instr.rsvd407F 0x7F 0xFF).wellFormed = true ∧ encode (.rsvd407F 0x7F 0xFF) = some (.cmd 0x7FFF) ∧
    Instr.aff.wellFormed = true ∧ encode .aff = none := by decide
theorem witness_NopAnswersZero : opcOf 0x00FF = 0x00 := by decide
theorem witness_GenStartsOnce : opcOf 0x01FF = 0x01 := by decide
theorem witness_RdsReadsSbox : opcOf 0x02FF = 0x02 ∧ published.phase = .complete ∧ readTable published.sbox 0x53 = some 0xED ∧
    readTable published.sbox 0xFF = none ∧ (small .fixup 0x01 0x01).phase ≠ .complete := by decide
theorem witness_RdiReadsSboxInverse : opcOf 0x0300 = 0x03 ∧ published.phase = .complete ∧
    readTable published.sboxInverse 0xED = some 0x53 ∧ readTable published.sboxInverse 0xFF = none ∧
    walkArmed.phase ≠ .complete := by decide
theorem witness_StatAnswersPhase : opcOf 0x0400 = 0x04 := by decide
theorem witness_ReservedAnswersIllegal : 0x05 ≤ (opcOf 0x0500).toNat ∧ 0x05 ≤ (opcOf 0xFFFF).toNat := by decide
theorem witness_HostWritesNothingButTheStart :
    nextAgent (hostTurn (small .idle 0x5A 0xA5) 0x0100) = .host ∧
    (∃ t, step (hostTurn (small .idle 0x5A 0xA5) 0x0100) = .next t) ∧
    nextAgent (hostTurn published 0x0253) = .host ∧ (∃ t, step (hostTurn published 0x0253) = .next t) ∧
    (∃ u, step { hostTurn published 0x0253 with p := 0x07, q := 0x09 } = .next u) :=
  ⟨rfl, ⟨_, rfl⟩, rfl, ⟨_, rfl⟩, ⟨_, rfl⟩⟩
/-- One refusal of each status, and a step of SEQ. -/
theorem witness_RefusalsChangeNothing :
    nextAgent (hostTurn walkCycling 0x0253) = .host ∧ (∃ t, step (hostTurn walkCycling 0x0253) = .next t) ∧
    peek (·.rsp) (step (hostTurn walkCycling 0x0253)) = some (some 0x0100) ∧
    peek (·.rsp) (step (hostTurn walkCycling 0x0500)) = some (some 0x0200) ∧
    nextAgent (seqTurn walkArmed) = .seq ∧ (∃ t, step (seqTurn walkArmed) = .next t) :=
  ⟨rfl, ⟨_, rfl⟩, by decide, by decide, rfl, ⟨_, rfl⟩⟩
theorem witness_WaitrdyRepeatsStat : published.phase = .complete ∧ walkArmed.phase ≠ .complete := by decide
theorem witness_StepIsOneLoopIteration : walkArmed.phase = .armed ∧ walkCycling.phase = .cycling := by decide
theorem witness_OperationsAreTheirParts : walkCycling.phase = .cycling ∧ (small .idle 0x00 0xFF).phase = .idle := by decide
theorem witness_FixzeroWritesTheZeroPair : (small .fixup 0x01 0x01).phase = .fixup := by decide
theorem witness_AdvpMultipliesByThree : walkCycling.gf = .ref := rfl
theorem witness_AdvqDividesByThree : walkCycling.gf = .ref := rfl
theorem witness_RecRecordsBothWays : { walkCycling with aff := some 0x00 }.aff = some 0x00 ∧ walkCycling.aff = none := by decide
theorem witness_RotationMovesBits : 1 ≤ 7 ∧ 7 ≤ 7 ∧ 7 < 8 := by decide
theorem witness_AffineBitForm : 7 < 8 := by decide
theorem witness_AffineLaws : affine 0x05 = affine 0x05 := rfl
theorem witness_FieldLaws : (0x53 : Byte) ≠ 0x00 ∧ refMul 0x53 0xCA = 0x01 := by decide
theorem witness_ThreeGeneratesTheGroup : (0x05 : Byte) ≠ 0x00 ∧ walkP 2 = 0x05 ∧ 1 ≤ 2 ∧ 2 ≤ 254 := by decide
theorem witness_ResetEventForgets : nextAgent { published with turns := [.reset] } = .reset := rfl
/-- One state for each clause of StepPerformsTheTurn. -/
theorem witness_StepPerformsTheTurn :
    (hostTurn published 0x0253).turns = .host :: [] ∧ (hostTurn published 0x0253).cmds = .word 0x0253 :: [] ∧
    { published with turns := [Agent.host], cmds := [HostItem.waitRdy] }.cmds = .waitRdy :: [] ∧
    (seqTurn walkArmed).turns = .seq :: [] ∧ decodeSeq (phaseBits (seqTurn walkArmed).phase) = .ok .step ∧
    (seqTurn published).turns = .seq :: [] ∧ decodeSeq (phaseBits (seqTurn published).phase) = .error .seqIdle ∧
    { published with turns := [Agent.reset] }.turns = .reset :: [] := ⟨rfl, rfl, rfl, rfl, rfl, rfl, rfl, rfl⟩
theorem witness_PlacedWordRunsNext : decodeTableWord 8 0b011 = some .step ∧ decodeTableWord 8 0b010 = some .fixzero := by decide
theorem witness_PhaseTransitions : ∃ t, step (seqTurn walkArmed) = .next t := ⟨_, rfl⟩
theorem witness_CompleteIsFinal :
    (hostTurn published 0x0100).phase = .complete ∧ nextAgent (hostTurn published 0x0100) ≠ .reset ∧
    (∃ t, step (hostTurn published 0x0100) = .next t) ∧
    nextAgent (hostTurn (small .idle 0x00 0x00) 0x0100) ≠ .reset ∧
    peek (·.phase) (step (hostTurn (small .idle 0x00 0x00) 0x0100)) = some .armed :=
  ⟨rfl, by decide, ⟨_, rfl⟩, by decide, by decide⟩
theorem witness_ReadsAreOfConstants : (hostTurn published 0x0253).phase = .complete ∧
    (hostTurn published 0x0253).turns = [.host] ++ [] ∧ Agent.reset ∉ [Agent.host] ∧
    ∃ t : State, Host.Core.run Sys2Proof.core [Agent.host].length (hostTurn published 0x0253) = .next t :=
  ⟨rfl, rfl, by decide, ⟨_, rfl⟩⟩
/-- Two states that differ on the wires only. -/
theorem witness_NoMemoryOfPastCommands :
    { seqTurn walkArmed with rsp := some 0x0006, aff := some 0x7B }.toBlock = (seqTurn walkArmed).toBlock ∧
    { seqTurn walkArmed with rsp := some 0x0006, aff := some 0x7B }.toSurroundings = (seqTurn walkArmed).toSurroundings ∧
    ∃ t, step { seqTurn walkArmed with rsp := some 0x0006, aff := some 0x7B } = .next t := ⟨rfl, rfl, _, rfl⟩
theorem witness_PhaseFields : phaseOfBits 0b110#3 = some .complete := by decide
theorem witness_ReadyIsALevel : ready (seqTurn published) = true ∧ nextAgent (seqTurn published) ≠ .reset ∧
    ∃ t, step (seqTurn published) = .next t := ⟨by decide, by decide, ⟨_, rfl⟩⟩
theorem witness_CollaboratorNeverChanges : ∃ t, step (seqTurn { walkArmed with gf := zeroGf }) = .next t := ⟨_, rfl⟩
theorem witness_IdleCursorsUnobservable :
    (hostTurn (small .idle 0x5A 0xA5) 0x0400).phase = .idle ∧ (∃ t, step (hostTurn (small .idle 0x5A 0xA5) 0x0400) = .next t) ∧
    (∃ t, step (hostTurn (small .idle 0x5A 0xA5) 0x0100) = .next t) := ⟨rfl, ⟨_, rfl⟩, ⟨_, rfl⟩⟩
theorem witness_StepKeepsTablesCanonical : TablesCanonical (seqTurn walkCycling) ∧ ∃ t, step (seqTurn walkCycling) = .next t :=
  ⟨by simp only [TablesCanonical]; decide, ⟨_, rfl⟩⟩
theorem witness_StepKeepsTheWalk : gfConforming (seqTurn walkCycling).gf ∧ Walk (seqTurn walkCycling) ∧
    ∃ t, step (seqTurn walkCycling) = .next t := ⟨ref_conforms, walk_cycling.1, ⟨_, rfl⟩⟩
theorem witness_StepKeepsCursorsInverse : gfConforming (seqTurn walkCycling).gf ∧
    ((seqTurn walkCycling).phase ≠ .idle → refMul (seqTurn walkCycling).p (seqTurn walkCycling).q = 0x01) ∧
    ∃ t, step (seqTurn walkCycling) = .next t ∧ t.phase ≠ .idle := ⟨ref_conforms, fun _ => by decide, ⟨_, rfl, by decide⟩⟩
/-- A state of the walk in each phase. -/
theorem witness_EntriesDuringTheWalk : Walk (small .idle 0x5A 0xA5) ∧ Walk walkArmed ∧ Walk walkCycling ∧
    Walk (holding .fixup (walkSbox 255) (walkInverse 255)) ∧ Walk (holding .complete finalSbox finalInverse) :=
  ⟨walk_idle, walk_armed.1, walk_cycling.1, walk_fixup, walk_complete⟩
theorem witness_RecorderInvariant : Walk walkCycling ∧ readTable walkCycling.sbox 0x03 = some 0x7B := ⟨walk_cycling.1, by decide⟩
theorem witness_NoEntryWrittenTwice : gfConforming walkCycling.gf ∧ Walk walkCycling ∧ walkCycling.phase = .cycling ∧
    Walk (holding .fixup (walkSbox 255) (walkInverse 255)) ∧ (holding .fixup [] []).phase = .fixup :=
  ⟨ref_conforms, walk_cycling.1, rfl, walk_fixup, rfl⟩
theorem witness_FinishedTables : Walk (holding .complete finalSbox finalInverse) ∧
    (∀ sb si, (holding .complete sb si).phase = .complete) ∧ refMul 0x53 0xCA = 0x01 :=
  ⟨walk_complete, fun _ _ => rfl, by decide⟩
theorem witness_ReferenceValues : Walk (holding .complete finalSbox finalInverse) ∧
    ∀ sb si, (holding .complete sb si).phase = .complete := ⟨walk_complete, fun _ _ => rfl⟩
/-- The hypotheses of the last two clauses: a read that answers OK. -/
theorem witness_ReadsInvertEachOther : ∃ s : State, Walk s ∧ s.phase = .complete ∧
    (∃ y : Byte, exec (.rds 0xFF) s = .next { s with rsp := some (0x00#8 ++ y) }) ∧
    (∃ y : Byte, exec (.rdi 0xFF) s = .next { s with rsp := some (0x00#8 ++ y) }) :=
  ⟨_, walk_complete, rfl, ⟨_, rfl⟩, ⟨_, rfl⟩⟩
theorem witness_GenerationTakes256Steps : gfConforming walkArmed.gf ∧
    Walk { walkArmed with turns := List.replicate 256 Agent.seq ++ [Agent.host] } ∧
    { walkArmed with turns := List.replicate 256 Agent.seq ++ [Agent.host] }.phase = .armed ∧
    Agent.reset ∉ List.replicate 256 Agent.seq := ⟨ref_conforms, walk_armed.1, rfl, no_reset⟩
theorem witness_RegenerationGivesTheSameTables :
    let s : State := { small .idle 0x5A 0xA5 with
      turns := .host :: (List.replicate 256 .seq ++ []), cmds := .word 0x01FF :: [.waitRdy] }
    gfConforming s.gf ∧ s.phase = .idle ∧ s.sbox = [] ∧ s.sboxInverse = [] ∧
    s.turns = .host :: (List.replicate 256 .seq ++ []) ∧ s.cmds = .word 0x01FF :: [.waitRdy] ∧ opcOf 0x01FF = 0x01 ∧
    Agent.reset ∉ List.replicate 256 Agent.seq ∧ 256 ≤ (List.replicate 256 Agent.seq).count .seq :=
  ⟨ref_conforms, rfl, rfl, rfl, rfl, rfl, by decide, no_reset, Nat.le_of_eq List.count_replicate_self.symm⟩
theorem witness_WrongCollaboratorMayHang :
    (∀ x : Byte, gfMulBy3 { walkArmed with gf := zeroGf, turns := [Agent.seq, Agent.host] }.gf x = 0x00) ∧
    { walkArmed with gf := zeroGf, turns := [Agent.seq, Agent.host] }.phase = .armed ∧
    { walkArmed with gf := zeroGf, turns := [Agent.seq, Agent.host] }.turns = [Agent.seq, Agent.host] ++ [] ∧
    Agent.reset ∉ [Agent.seq, Agent.host] :=
  ⟨zeroGf_mulBy3, rfl, rfl, by decide⟩
theorem witness_WrongCollaboratorMayEndEarly :
    (∀ x : Byte, gfMulBy3 identityGf x = x) ∧ (∀ x : Byte, gfMul identityGf x 0xF6 = x) ∧
    { walkArmed with gf := identityGf, turns := [Agent.seq, Agent.seq] }.turns = .seq :: .seq :: [] ∧ walkArmed.p = 0x01 ∧
    walkArmed.q = 0x01 ∧ walkArmed.sbox = [] ∧ walkArmed.sboxInverse = [] :=
  ⟨identityGf_mulBy3, identityGf_mul 0xF6, rfl, rfl, rfl, rfl, rfl⟩
/-- One state for each of the three clauses, and the one clause it names. -/
theorem witness_FrameOfRecordingOperations :
    (∃ t, exec .step walkCycling = .next t) ∧ (∃ t, exec .record walkCycling = .next t) ∧
    (∃ t, exec .fixzero (holding .fixup [] []) = .next t) := ⟨⟨_, rfl⟩, ⟨_, rfl⟩, ⟨_, rfl⟩⟩
theorem witness_FrameOfNonRecordingOperations :
    (∃ t, exec (.gen 0x00) (small .idle 0x5A 0xA5) = .next t) ∧ (∃ t, exec .waitrdy walkCycling = .next t) ∧
    (∃ t, exec .loopt walkCycling = .next t) := ⟨⟨_, rfl⟩, ⟨_, rfl⟩, ⟨_, rfl⟩⟩

end Sys2Proof.Tests
end

section
/-! PROOFS. Scope (00_scope R9): the operation one step performs, by the agent whose turn it is. -/

namespace Sys2Proof.Machine

/-! ### What `step` does in the turn of each agent -/

theorem step_of_reset {s : State} (h : nextAgent s = .reset) : step s = .next (opReset (takeTurn s)) := by
  rw [step, h]

theorem step_of_seq {s : State} {i : Instr} (h : nextAgent s = .seq) (hi : seqSelect s = .ok i) :
    step s = exec i (takeTurn s) := by
  rw [step, h, hi]

theorem step_of_seq_idle {s : State} {e : DecodeError} (h : nextAgent s = .seq) (he : seqSelect s = .error e) :
    step s = .next (takeTurn s) := by
  rw [step, h, he]

theorem step_of_host {s : State} (h : nextAgent s = .host) :
    step s = exec (itemInstr (nextItem s)) (hostState s) := by
  rw [step, h]

/-! ### Listed turns and items -/

theorem nextAgent_of_turns {s : State} {a : Agent} {ts : List Agent} (h : s.turns = a :: ts) : nextAgent s = a := by
  simp [nextAgent, h]

theorem nextItem_of_cmds {s : State} {x : HostItem} {cs : List HostItem} (h : s.cmds = x :: cs) : nextItem s = x := by
  simp [nextItem, h]

theorem takeTurn_of_turns {s : State} {a : Agent} {ts : List Agent} (h : s.turns = a :: ts) :
    takeTurn s = { s with turns := ts, rsp := none, aff := none, tick := s.tick + 1 } := by
  simp [takeTurn, h]

/-- HOST with its turn and its item listed performs that item (R103). -/
theorem step_of_host_item {s : State} {ts : List Agent} {x : HostItem} {cs : List HostItem}
    (ht : s.turns = .host :: ts) (hc : s.cmds = x :: cs) :
    step s = exec (itemInstr x) { s with turns := ts, cmds := cs, rsp := none, aff := none, tick := s.tick + 1 } := by
  have hs : hostState s = { s with turns := ts, cmds := cs, rsp := none, aff := none, tick := s.tick + 1 } := by
    rw [hostState, takeTurn_of_turns ht]
    simp [takeItem, hc]
  rw [step_of_host (nextAgent_of_turns ht), nextItem_of_cmds hc, hs]

/-- R112: what a command word decodes to is well-formed. -/
theorem wellFormed_decodeCmd (w : Word) : (decodeCmd w).wellFormed = true := by
  rcases decodeCmd_cases w with ⟨-, e⟩ | ⟨-, e⟩ | ⟨-, e⟩ | ⟨-, e⟩ | ⟨-, e⟩ | ⟨hopc, e⟩ <;> rw [e]
  case inr.inr.inr.inr.inr => exact (decodeReserved_encode _ _ hopc).1
  all_goals rfl

/-- Settles O36: one clause for each kind of turn, from the step of that agent and the lists it uses up. -/
theorem stepPerformsTheTurn : Obligations.StepPerformsTheTurn := by
  unfold Obligations.StepPerformsTheTurn
  refine ⟨fun s w ts cs ht hc => ⟨wellFormed_decodeCmd w, step_of_host_item ht hc⟩,
    fun s ts cs ht hc => step_of_host_item ht hc, fun s ts i ht hi => ?_, fun s ts e ht he => ?_, fun s ts ht => ?_⟩
  · rw [step_of_seq (nextAgent_of_turns ht) hi, takeTurn_of_turns ht]
  · rw [step_of_seq_idle (nextAgent_of_turns ht) he, takeTurn_of_turns ht]
  · rw [step_of_reset (nextAgent_of_turns ht), takeTurn_of_turns ht]

end Sys2Proof.Machine
end

section
/-! PROOFS. The two cursors walk through the nonzero bytes (40_gf_arithmetic R64, R68; 10_state R12 to R14): multiplying by 3
and multiplying by `GINV` undo each other, and each is a cycle of length 255 from `ONE`. -/

namespace Sys2Proof.Machine

open Function

/-! ### Multiplying by 3 and by `GINV` -/

/-- The step of the backward cursor: a product with `GINV`. -/
abbrev divBy3 (b : Byte) : Byte := refMul b constGinv

theorem refMulBy3_divBy3 : LeftInverse refMulBy3 divBy3 := by
  unfold LeftInverse; decide +kernel

theorem divBy3_refMulBy3 : LeftInverse divBy3 refMulBy3 := fun b => by
  rw [divBy3, refMul_refMulBy3]; exact refMulBy3_divBy3 b

@[simp] theorem zero_refMul (b : Byte) : refMul 0x00 b = 0x00 := by
  have hround : ∀ i, mulRound b (0x00, 0x00) i = (0x00, 0x00) := by simp [mulRound, xtime]
  exact congrArg Prod.fst (List.foldl_fixed' hround _)

theorem card_byte : Fintype.card Byte = 256 :=
  (Fintype.card_congr (BitVec.equivFin (m := 8)).toEquiv).trans (Fintype.card_fin _)

/-- A function on bytes that runs through all the nonzero bytes, from `ONE` back to `ONE`. -/
structure CyclesNonzero (f : Byte → Byte) : Prop where
  injective : Injective f
  map_zero : f 0x00 = 0x00
  period : minimalPeriod f constOne = 255

namespace CyclesNonzero

variable {f : Byte → Byte} (hf : CyclesNonzero f)
include hf

theorem iterate_ne_zero (k : Nat) : f^[k] constOne ≠ 0x00 := fun h =>
  absurd (hf.injective.iterate k (h.trans (iterate_fixed hf.map_zero k).symm)) (by decide)

theorem iterate_eq_one : f^[255] constOne = constOne := by
  rw [← hf.period, iterate_minimalPeriod]

theorem iterate_ne_one {k : Nat} (h1 : 1 ≤ k) (h254 : k ≤ 254) : f^[k] constOne ≠ constOne :=
  not_isPeriodicPt_of_pos_of_lt_minimalPeriod (by omega) (by rw [hf.period]; omega)

/-- No byte is visited twice in one round. -/
theorem iterate_injOn : (Set.Icc 1 255).InjOn (f^[·] constOne) := by
  rintro i ⟨hi, hi'⟩ j ⟨hj, hj'⟩ h
  obtain ⟨i, rfl⟩ := Nat.exists_eq_add_of_le' hi
  obtain ⟨j, rfl⟩ := Nat.exists_eq_add_of_le' hj
  simp only [iterate_succ_apply'] at h
  have hlt : ∀ n, n + 1 ≤ 255 → n ∈ Set.Iio (minimalPeriod f constOne) := fun n hn => by
    rw [hf.period]; exact hn
  rw [iterate_injOn_Iio_minimalPeriod (hlt i hi') (hlt j hj') (hf.injective h)]

/-- One round visits 255 bytes and never 0x00, so it visits every other byte. -/
theorem exists_iterate_iff (x : Byte) : (∃ j, 1 ≤ j ∧ j ≤ 255 ∧ x = f^[j] constOne) ↔ x ≠ 0x00 := by
  refine ⟨fun ⟨j, _, _, hx⟩ => hx ▸ hf.iterate_ne_zero j, fun hx => ?_⟩
  have himage : (Finset.Icc 1 255).image (f^[·] constOne) = Finset.univ.erase 0x00 := by
    refine Finset.eq_of_subset_of_card_le (fun y hy => ?_) ?_
    · obtain ⟨j, -, rfl⟩ := Finset.mem_image.1 hy
      exact Finset.mem_erase.2 ⟨hf.iterate_ne_zero j, Finset.mem_univ _⟩
    · rw [Finset.card_image_of_injOn (by simpa using hf.iterate_injOn), Finset.card_erase_of_mem (Finset.mem_univ _),
        Finset.card_univ, card_byte, Nat.card_Icc]
  obtain ⟨j, hj, rfl⟩ := Finset.mem_image.1 (himage ▸ Finset.mem_erase.2 ⟨hx, Finset.mem_univ x⟩)
  obtain ⟨h1, h255⟩ := Finset.mem_Icc.1 hj
  exact ⟨j, h1, h255, rfl⟩

end CyclesNonzero

/-- 3 has order 255: its 255th power is 1, and its powers 85, 51 and 15 are not. -/
theorem minimalPeriod_refMulBy3 : minimalPeriod refMulBy3 constOne = 255 := by
  have hdvd : minimalPeriod refMulBy3 constOne ∣ 255 :=
    IsPeriodicPt.minimalPeriod_dvd (by unfold IsPeriodicPt IsFixedPt; decide +kernel)
  have hnot : ∀ n ∈ [85, 51, 15], ¬ minimalPeriod refMulBy3 constOne ∣ n := by
    simp only [← isPeriodicPt_iff_minimalPeriod_dvd, IsPeriodicPt, IsFixedPt]
    decide +kernel
  have hmem := Nat.mem_divisors.2 ⟨hdvd, by decide⟩
  rw [show Nat.divisors 255 = {1, 3, 5, 15, 17, 51, 85, 255} by decide +kernel] at hmem
  simp only [Finset.mem_insert, Finset.mem_singleton] at hmem
  rcases hmem with h | h | h | h | h | h | h | h <;> rw [h] at hnot ⊢ <;> exact absurd hnot (by decide)

theorem cyclesNonzero_refMulBy3 : CyclesNonzero refMulBy3 :=
  ⟨divBy3_refMulBy3.injective, by decide, minimalPeriod_refMulBy3⟩

/-- The inverse of 3 has the order of 3. -/
theorem cyclesNonzero_divBy3 : CyclesNonzero divBy3 := by
  refine ⟨refMulBy3_divBy3.injective, zero_refMul _, ?_⟩
  rw [← minimalPeriod_refMulBy3, minimalPeriod_eq_minimalPeriod_iff]
  intro n
  have h := refMulBy3_divBy3.iterate n constOne
  exact ⟨fun hn => by rwa [hn.eq] at h, fun hn => cyclesNonzero_refMulBy3.injective.iterate n (h.trans hn.symm)⟩

/-! ### The cursors after `k` STEPs -/

theorem walkP_eq_iterate : walkP = (refMulBy3^[·] constOne) := by
  funext k
  induction k with
  | zero => rfl
  | succ k ih => rw [walkP, ih, iterate_succ_apply']

theorem walkQ_eq_iterate : walkQ = (divBy3^[·] constOne) := by
  funext k
  induction k with
  | zero => rfl
  | succ k ih => rw [walkQ, ih, iterate_succ_apply']

@[simp] theorem walkP_255 : walkP 255 = constOne := by
  rw [walkP_eq_iterate]; exact cyclesNonzero_refMulBy3.iterate_eq_one

@[simp] theorem walkQ_255 : walkQ 255 = constOne := by
  rw [walkQ_eq_iterate]; exact cyclesNonzero_divBy3.iterate_eq_one

theorem walkP_ne_one {k : Nat} (h1 : 1 ≤ k) (h254 : k ≤ 254) : walkP k ≠ constOne := by
  rw [walkP_eq_iterate]; exact cyclesNonzero_refMulBy3.iterate_ne_one h1 h254

theorem walkP_injOn : (Set.Icc 1 255).InjOn walkP := by
  rw [walkP_eq_iterate]; exact cyclesNonzero_refMulBy3.iterate_injOn

theorem walkQ_injOn : (Set.Icc 1 255).InjOn walkQ := by
  rw [walkQ_eq_iterate]; exact cyclesNonzero_divBy3.iterate_injOn

theorem exists_walkP_iff (x : Byte) : (∃ j, 1 ≤ j ∧ j ≤ 255 ∧ x = walkP j) ↔ x ≠ 0x00 := by
  rw [walkP_eq_iterate]; exact cyclesNonzero_refMulBy3.exists_iterate_iff x

theorem exists_walkQ_iff (x : Byte) : (∃ j, 1 ≤ j ∧ j ≤ 255 ∧ x = walkQ j) ↔ x ≠ 0x00 := by
  rw [walkQ_eq_iterate]; exact cyclesNonzero_divBy3.exists_iterate_iff x

/-- R14 along the walk. -/
theorem refMul_walkP_walkQ (k : Nat) : refMul (walkP k) (walkQ k) = constOne := by
  rw [refMul_walkP, walkQ_eq_iterate]
  exact refMulBy3_divBy3.iterate k constOne

/-- R74: a STEP multiplies one cursor by 3 and the other by its inverse, so their product stays. The first factor is 0x00 or a
power of 3. -/
theorem refMul_refMulBy3_divBy3 (a b : Byte) : refMul (refMulBy3 a) (divBy3 b) = refMul a b := by
  by_cases ha : a = 0x00
  · rw [ha, cyclesNonzero_refMulBy3.map_zero, zero_refMul, zero_refMul]
  · obtain ⟨k, -, -, rfl⟩ := (exists_walkP_iff a).2 ha
    calc refMul (walkP (k + 1)) (divBy3 b) = refMulBy3^[k] (refMulBy3 (divBy3 b)) := by
          rw [refMul_walkP, iterate_succ_apply]
      _ = refMul (walkP k) b := by rw [refMulBy3_divBy3, refMul_walkP]

end Sys2Proof.Machine
end

section
/-! PROOFS. Which bytes the first `k` STEPs of a generation record (10_state R17; 43_table_recorder R93, R95, R98). -/

namespace Sys2Proof.Machine

open Function

/-! ### The affine transform takes different values for different bytes -/

/-- The affine transform has order 4. -/
theorem affine_iterate_four : LeftInverse (affine^[3]) affine := by
  unfold LeftInverse; decide +kernel

theorem affine_injective : Injective affine := affine_iterate_four.injective

theorem affine_walkQ_injOn : (Set.Icc 1 255).InjOn (fun k => affine (walkQ k)) :=
  affine_injective.comp_injOn walkQ_injOn

/-- The values that are recorded are all but `AFF(0x00)`. -/
theorem exists_affine_walkQ_iff (y : Byte) : (∃ j, 1 ≤ j ∧ j ≤ 255 ∧ y = affine (walkQ j)) ↔ y ≠ constFix := by
  obtain ⟨q, rfl⟩ := Finite.surjective_of_injective affine_injective y
  rw [show constFix = affine 0x00 by decide, affine_injective.ne_iff, ← exists_walkQ_iff]
  simp only [affine_injective.eq_iff]

/-! ### A table after `k` writes at different entries -/

@[simp] theorem readTable_nil (x : Byte) : readTable [] x = none := rfl

section

variable {T : Nat → Table} {f g : Nat → Byte} {n : Nat} (h0 : T 0 = [])
  (hsucc : ∀ k, T (k + 1) = writeTable (T k) (f (k + 1)) (g (k + 1))) (hf : (Set.Icc 1 n).InjOn f)
include h0 hsucc hf

/-- Where the `k`th write puts `g k` at the entry `f k`, and no entry comes twice, the table holds the bytes written and no
others. -/
theorem readTable_recorded {k : Nat} (hk : k ≤ n) (x v : Byte) :
    readTable (T k) x = some v ↔ ∃ j, 1 ≤ j ∧ j ≤ k ∧ x = f j ∧ v = g j := by
  induction k with
  | zero =>
    rw [h0, readTable_nil]
    exact ⟨fun h => (nomatch h), fun ⟨j, h1, h0, _⟩ => absurd h1 (by omega)⟩
  | succ k ih =>
    rw [hsucc, readTable_writeTable]
    by_cases hx : x = f (k + 1)
    · rw [if_pos hx, Option.some_inj]
      refine ⟨fun hv => ⟨k + 1, by omega, le_rfl, hx, hv.symm⟩, fun ⟨j, h1, hj, hxj, hv⟩ => ?_⟩
      have hjk : j = k + 1 := hf ⟨h1, by omega⟩ ⟨by omega, hk⟩ (hxj.symm.trans hx)
      rw [hv, hjk]
    · rw [if_neg hx, ih (by omega)]
      refine ⟨fun ⟨j, h1, hj, h⟩ => ⟨j, h1, by omega, h⟩, fun ⟨j, h1, hj, hxj, hv⟩ => ⟨j, h1, ?_, hxj, hv⟩⟩
      have hjk : j ≠ k + 1 := fun e => hx (e ▸ hxj)
      omega

theorem readTable_recorded_ne_none {k : Nat} (hk : k ≤ n) (x : Byte) :
    readTable (T k) x ≠ none ↔ ∃ j, 1 ≤ j ∧ j ≤ k ∧ x = f j := by
  simp only [Option.ne_none_iff_exists', readTable_recorded h0 hsucc hf hk]
  exact ⟨fun ⟨_, j, h1, hj, hx, _⟩ => ⟨j, h1, hj, hx⟩, fun ⟨j, h1, hj, hx⟩ => ⟨g j, j, h1, hj, hx, rfl⟩⟩

end

/-- R17: what `SBOX` holds after `k` STEPs. -/
theorem readTable_walkSbox {k : Nat} (hk : k ≤ 255) (x v : Byte) :
    readTable (walkSbox k) x = some v ↔ ∃ j, 1 ≤ j ∧ j ≤ k ∧ x = walkP j ∧ v = affine (walkQ j) :=
  readTable_recorded (g := fun k => affine (walkQ k)) rfl (fun _ => rfl) walkP_injOn hk x v

/-- R17: what `SBOX_INVERSE` holds after `k` STEPs. -/
theorem readTable_walkInverse {k : Nat} (hk : k ≤ 255) (x v : Byte) :
    readTable (walkInverse k) x = some v ↔ ∃ j, 1 ≤ j ∧ j ≤ k ∧ x = affine (walkQ j) ∧ v = walkP j :=
  readTable_recorded (f := fun k => affine (walkQ k)) (g := walkP) rfl (fun _ => rfl) affine_walkQ_injOn hk x v

/-- After the walk only `SBOX[0x00]` holds no value. -/
theorem readTable_walkSbox_eq_none (x : Byte) : readTable (walkSbox 255) x = none ↔ x = 0x00 :=
  not_iff_not.1 <| (readTable_recorded_ne_none (g := fun k => affine (walkQ k)) rfl (fun _ => rfl) walkP_injOn le_rfl x).trans
    (exists_walkP_iff x)

/-- After the walk only `SBOX_INVERSE[0x63]` holds no value. -/
theorem readTable_walkInverse_eq_none (x : Byte) : readTable (walkInverse 255) x = none ↔ x = constFix :=
  not_iff_not.1 <| (readTable_recorded_ne_none (f := fun k => affine (walkQ k)) (g := walkP) rfl (fun _ => rfl)
    affine_walkQ_injOn le_rfl x).trans (exists_affine_walkQ_iff x)

/-! ### The finished tables -/

/-- The printed tables list the pairs of the walk. -/
theorem specTables_walk : ∀ j < 256, specSbox[(walkP j).toNat]? = some (affine (walkQ j)) ∧
    specSboxInverse[(affine (walkQ j)).toNat]? = some (walkP j) := by decide +kernel

/-- R98 item 5 for `SBOX`: FIXZERO's entry or one of the walk's. -/
theorem readTable_finalSbox (x : Byte) :
    ∃ v, readTable finalSbox x = some v ∧ specSbox[x.toNat]? = some v := by
  rw [finalSbox, readTable_writeTable]
  by_cases hx : x = constZero
  · exact ⟨constFix, if_pos hx, by rw [hx]; rfl⟩
  · obtain ⟨j, h1, hj, rfl⟩ := (exists_walkP_iff x).2 hx
    rw [if_neg hx]
    exact ⟨_, (readTable_walkSbox le_rfl _ _).2 ⟨j, h1, hj, rfl, rfl⟩, (specTables_walk j (by omega)).1⟩

/-- R98 item 5 for `SBOX_INVERSE`. -/
theorem readTable_finalInverse (x : Byte) :
    ∃ v, readTable finalInverse x = some v ∧ specSboxInverse[x.toNat]? = some v := by
  rw [finalInverse, readTable_writeTable]
  by_cases hx : x = constFix
  · exact ⟨constZero, if_pos hx, by rw [hx]; rfl⟩
  · obtain ⟨j, h1, hj, rfl⟩ := (exists_affine_walkQ_iff x).2 hx
    rw [if_neg hx]
    exact ⟨_, (readTable_walkInverse le_rfl _ _).2 ⟨j, h1, hj, rfl, rfl⟩, (specTables_walk j (by omega)).2⟩

end Sys2Proof.Machine
end

section
/-! PROOFS. What a step of any agent does to the block (10_state; 41_generator_cycle R76, R78; 43_table_recorder R95). -/

namespace Sys2Proof.Machine

/-- What one step leaves in the block: a reset empties the tables; a STEP records a pair; FIXZERO writes the zero pair; a GEN in
IDLE sets the cursors; every other step leaves the block as it was. -/
theorem step_block_cases {s t : State} (h : step s = .next t) :
    nextAgent s = .reset ∧ t.phase = .idle ∧ t.sbox = [] ∧ t.sboxInverse = [] ∨
    t.toBlock = s.toBlock ∨
    nextAgent s = .seq ∧ (s.phase = .armed ∨ s.phase = .cycling) ∧
      t.toBlock =
        { p := gfMulBy3 s.gf s.p
          q := gfMul s.gf s.q constGinv
          phase := if gfMulBy3 s.gf s.p = constOne then .fixup else .cycling
          sbox := writeTable s.sbox (gfMulBy3 s.gf s.p) (affine (gfMul s.gf s.q constGinv))
          sboxInverse := writeTable s.sboxInverse (affine (gfMul s.gf s.q constGinv)) (gfMulBy3 s.gf s.p) } ∨
    nextAgent s = .seq ∧ s.phase = .fixup ∧
      t.toBlock =
        { s.toBlock with
          phase := .complete
          sbox := writeTable s.sbox constZero constFix
          sboxInverse := writeTable s.sboxInverse constFix constZero } ∨
    nextAgent s = .host ∧ isGen (itemInstr (nextItem s)) = true ∧ s.phase = .idle ∧
      t.toBlock = { s.toBlock with p := constOne, q := constOne, phase := .armed } := by
  rcases step_cases s with ⟨ha, e⟩ | ⟨-, -, e⟩ | ⟨ha, hp, e⟩ | ⟨ha, hp, e⟩ | ⟨ha, hg, hp, e⟩ | ⟨-, -, -, e⟩ |
    ⟨-, -, st, d, e⟩ <;> rw [e] at h <;> cases h
  · exact .inl ⟨ha, rfl, rfl, rfl⟩
  · exact .inr (.inl rfl)
  · exact .inr (.inr (.inl ⟨ha, hp, rfl⟩))
  · exact .inr (.inr (.inr (.inl ⟨ha, hp, rfl⟩)))
  · exact .inr (.inr (.inr (.inr ⟨ha, hg, hp, rfl⟩)))
  · exact .inr (.inl rfl)
  · exact .inr (.inl rfl)

/-- R21: a step from COMPLETE that is no reset leaves the block as it was. -/
theorem step_block_of_complete {s t : State} (hp : s.phase = .complete) (ha : nextAgent s ≠ .reset)
    (h : step s = .next t) : t.toBlock = s.toBlock := by
  rcases step_block_cases h with ⟨hr, -⟩ | e | ⟨-, hp', -⟩ | ⟨-, hp', -⟩ | ⟨-, -, hp', -⟩
  · exact absurd hr ha
  · exact e
  all_goals simp [hp] at hp'

/-- Settles O39: COMPLETE is left by a reset only, IDLE is entered by a reset only, and ARMED by a GEN in IDLE only. -/
theorem completeIsFinal : Obligations.CompleteIsFinal := by
  unfold Obligations.CompleteIsFinal
  refine ⟨fun s t hp ha h => ?_, fun s t ha h => ?_⟩
  · rw [step_block_of_complete hp ha h]
    exact ⟨rfl, rfl, hp, rfl, rfl⟩
  · rcases step_block_cases h with ⟨hr, -⟩ | e | ⟨-, -, e⟩ | ⟨-, -, e⟩ | ⟨ha', hg, hp, e⟩
    · exact absurd hr ha
    · rw [e]; exact ⟨id, .inl⟩
    · rw [e]; dsimp only; split <;> simp
    · simp [e]
    · exact ⟨fun hne => absurd hp hne, fun _ => .inr ⟨hp, ha', hg⟩⟩

/-! ### `phase` and `ready` (R15, R16, R18) -/

theorem rdyBit_iff (ph : Phase) : rdyBit ph = true ↔ ph = .complete := by cases ph <;> decide

theorem ready_iff (s : State) : ready s = true ↔ s.phase = .complete := rdyBit_iff s.phase

/-- Settles O42: `ready` says that the phase is COMPLETE, which only a reset ends. -/
theorem readyIsALevel : Obligations.ReadyIsALevel := by
  unfold Obligations.ReadyIsALevel
  refine ⟨fun s => ⟨rfl, ready_iff s⟩, fun s t hr ha h => ?_⟩
  have hp := (ready_iff s).1 hr
  rw [ready_iff, step_block_of_complete hp ha h, hp]

/-- Settles O41: five codes, three bits. -/
theorem phaseFields : Obligations.PhaseFields := by
  unfold Obligations.PhaseFields
  refine ⟨rfl, rfl, rfl, rfl, rfl, fun ph => ?_, fun ph => ?_, rdyBit_iff, fun ph => ?_, fun b ph h => ?_⟩
  · cases ph <;> decide
  · cases ph <;> decide
  · cases ph <;> rfl
  · revert b; cases ph <;> decide

/-! ### What is not state of the block (R6, R24, R28) -/

/-- R24, R85: a step leaves the collaborator as it was and the affine wire empty. -/
theorem step_gf_aff {s t : State} (h : step s = .next t) : t.gf = s.gf ∧ t.aff = none := by
  rcases step_cases s with ⟨-, e⟩ | ⟨-, -, e⟩ | ⟨-, -, e⟩ | ⟨-, -, e⟩ | ⟨-, -, -, e⟩ | ⟨-, -, -, e⟩ | ⟨-, -, _, _, e⟩ <;>
    rw [e] at h <;> cases h <;> exact ⟨rfl, rfl⟩

/-- Settles O43: no operation of a step writes the collaborator. -/
theorem collaboratorNeverChanges : Obligations.CollaboratorNeverChanges := by
  unfold Obligations.CollaboratorNeverChanges
  exact fun s t h => (step_gf_aff h).1

/-- A turn begins with nothing on the wires, and nothing before it reads them. -/
theorem step_wires (s : State) (r : Option Word) (a : Option Byte) : step { s with rsp := r, aff := a } = step s := rfl

/-- Settles O44: a step does not read the wires, so what is beside them decides it. -/
theorem noMemoryOfPastCommands : Obligations.NoMemoryOfPastCommands := by
  unfold Obligations.NoMemoryOfPastCommands
  refine ⟨step_wires, fun ⟨b, u, w⟩ ⟨b', u', w'⟩ hb hu => ?_, fun s t h => (step_gf_aff h).2⟩
  cases hb
  cases hu
  exact (step_wires _ w'.rsp w'.aff).symm

end Sys2Proof.Machine
end

section
/-! PROOFS. The invariants of a generation (10_state R14, R17, R29; 41_generator_cycle R74, R76, R78). -/

namespace Sys2Proof.Machine

/-! ### The walk -/

/-- Where STEP is enabled, `k` STEPs have been made, and there is a next one. -/
theorem walk_of_stepEnabled {s : State} (hw : Walk s) (hp : s.phase = .armed ∨ s.phase = .cycling) :
    ∃ k ≤ 254, s.p = walkP k ∧ s.q = walkQ k ∧ s.sbox = walkSbox k ∧ s.sboxInverse = walkInverse k := by
  unfold Walk at hw
  rcases hp with hp | hp <;> rw [hp] at hw
  · exact ⟨0, by omega, hw⟩
  · obtain ⟨k, -, hk, h⟩ := hw
    exact ⟨k, hk, h⟩

/-- After `k + 1` STEPs the walk is in CYCLING, or, when the forward cursor is back at `ONE`, in FIXUP (R75, R77). -/
theorem walkAt_succ {k : Nat} (hk : k ≤ 254) :
    WalkAt (if walkP (k + 1) = constOne then .fixup else .cycling) (walkP (k + 1)) (walkQ (k + 1)) (walkSbox (k + 1))
      (walkInverse (k + 1)) := by
  by_cases hlast : k = 254
  · subst hlast
    rw [if_pos walkP_255]
    exact ⟨walkP_255, walkQ_255, rfl, rfl⟩
  · rw [if_neg (walkP_ne_one (by omega) (by omega))]
    exact ⟨k + 1, by omega, by omega, rfl, rfl, rfl, rfl⟩

/-- Settles O47, by the cases of what a step does to the block. -/
theorem stepKeepsTheWalk : Obligations.StepKeepsTheWalk := by
  unfold Obligations.StepKeepsTheWalk
  rintro s t ⟨hmul3, hginv⟩ hw h
  rcases step_block_cases h with ⟨-, hp, hsb, hsi⟩ | e | ⟨-, hp, e⟩ | ⟨-, hp, e⟩ | ⟨-, -, hp, e⟩
  · unfold Walk; rw [hp]; exact ⟨hsb, hsi⟩
  · unfold Walk; rw [e]; exact hw
  · obtain ⟨k, hk, hpk, hqk, hsb, hsi⟩ := walk_of_stepEnabled hw hp
    unfold Walk
    rw [e, hmul3, hginv, hpk, hqk, hsb, hsi]
    exact walkAt_succ hk
  all_goals
    unfold Walk at hw ⊢
    rw [hp] at hw
    rw [e]
  · obtain ⟨hp1, hq1, hsb, hsi⟩ := hw
    exact ⟨hp1, hq1, by rw [hsb, finalSbox], by rw [hsi, finalInverse]⟩
  · exact ⟨rfl, rfl, hw⟩

/-- Settles O48: a STEP keeps the product of the cursors, GEN sets both to `ONE`, and no other step writes them outside IDLE. -/
theorem stepKeepsCursorsInverse : Obligations.StepKeepsCursorsInverse := by
  unfold Obligations.StepKeepsCursorsInverse
  rintro s t ⟨hmul3, hginv⟩ hinv h
  rcases step_block_cases h with ⟨-, hp, -⟩ | e | ⟨-, hp, e⟩ | ⟨-, hp, e⟩ | ⟨-, -, hp, e⟩
  · exact fun hne => absurd hp hne
  · rw [e]; exact hinv
  · have hpq := hinv (by rcases hp with hp | hp <;> simp [hp])
    rw [e, hmul3, hginv]
    exact fun _ => (refMul_refMulBy3_divBy3 s.p s.q).trans hpq
  · rw [e]; exact fun _ => hinv (by simp [hp])
  · rw [e]; exact fun _ => one_refMul constOne

/-- Settles O49: the bytes recorded so far, phase by phase. -/
theorem entriesDuringTheWalk : Obligations.EntriesDuringTheWalk := by
  unfold Obligations.EntriesDuringTheWalk
  intro s hw
  unfold Walk at hw
  refine ⟨fun hp => ?_, fun hp => ?_, fun hp => ?_, fun hp => ?_, fun hp => ?_⟩ <;> rw [hp] at hw
  · obtain ⟨hsb, hsi⟩ := hw
    simp [hsb, hsi]
  · obtain ⟨hp1, hq1, hsb, hsi⟩ := hw
    exact ⟨hp1, hq1, by simp [hsb, hsi]⟩
  · obtain ⟨k, h1, hk, hpk, hqk, hsb, hsi⟩ := hw
    rw [hpk, hqk, hsb, hsi]
    exact ⟨k, h1, hk, rfl, walkP_ne_one h1 hk, rfl, refMul_walkP_walkQ k,
      fun x v => ⟨readTable_walkSbox (by omega) x v, readTable_walkInverse (by omega) x v⟩⟩
  · obtain ⟨hp1, hq1, hsb, hsi⟩ := hw
    rw [hsb, hsi]
    exact ⟨hp1, hq1, fun x v => ⟨readTable_walkSbox le_rfl x v, readTable_walkInverse le_rfl x v⟩,
      readTable_walkSbox_eq_none, readTable_walkInverse_eq_none⟩
  · obtain ⟨hp1, hq1, hsb, hsi⟩ := hw
    rw [hsb, hsi]
    exact ⟨hp1, hq1, fun x => ⟨readTable_finalSbox x, readTable_finalInverse x⟩⟩

/-! ### Reset -/

/-- Settles O33. -/
theorem resetLeavesIdle : Obligations.ResetLeavesIdle := by
  unfold Obligations.ResetLeavesIdle
  exact ⟨rfl, rfl, rfl⟩

/-- Settles O34: at reset the tables list nothing and the collaborator is the reference itself. -/
theorem resetMeetsTheInvariants : Obligations.ResetMeetsTheInvariants := by
  unfold Obligations.ResetMeetsTheInvariants
  have hwf : tableWf [] := ⟨.nil, fun _ hc => nomatch hc⟩
  exact ⟨⟨hwf, hwf⟩, ⟨rfl, rfl⟩, ⟨fun _ => rfl, fun _ => rfl⟩, rfl⟩

/-! ### The cursors in IDLE (R29) -/

/-- In IDLE what the consumer presents alone decides what happens: it is the GEN that starts a generation, a WAITRDY that is
issued again, or a command with one and the same answer in every state in IDLE. -/
theorem exec_itemInstr_of_idle (x : HostItem) :
    (∀ s : State, s.phase = .idle → exec (itemInstr x) s = .next (opStat { opInit s with phase := .armed })) ∨
    (∀ s : State, s.phase = .idle → exec (itemInstr x) s = .next { opStat s with cmds := .waitRdy :: s.cmds }) ∨
    (∃ st d, ∀ s : State, s.phase = .idle → exec (itemInstr x) s = .next (respond s st d)) := by
  cases x with
  | waitRdy =>
    refine .inr (.inl fun s hp => ?_)
    rcases execWaitrdy_cases s with ⟨hc, -⟩ | ⟨-, e⟩
    · rw [hp] at hc; cases hc
    · exact e
  | word w =>
    rw [itemInstr]
    rcases decodeCmd_cases w with ⟨-, e⟩ | ⟨-, e⟩ | ⟨-, e⟩ | ⟨-, e⟩ | ⟨-, e⟩ | ⟨-, e⟩ <;> rw [e]
    · exact .inr (.inr ⟨.ok, 0x00, fun s _ => rfl⟩)
    · exact .inl fun s hp => if_pos hp
    · exact .inr (.inr ⟨.notReady, 0x00, fun s hp => if_neg (by simp [hp])⟩)
    · exact .inr (.inr ⟨.notReady, 0x00, fun s hp => if_neg (by simp [hp])⟩)
    · exact .inr (.inr ⟨.ok, phaseByte .idle, fun s hp => by rw [← hp]; rfl⟩)
    · exact .inr (.inr ⟨.illegal, 0x00, fun s _ => exec_reserved _ s (isReserved_decodeReserved _ _)⟩)

/-- A state with other bytes in its cursors. -/
abbrev withCursors (s : State) (x y : Byte) : State := { s with p := x, q := y }

/-- Settles O45: a reset and a GEN write over the cursors, and no other step from IDLE reads or writes them. -/
theorem idleCursorsUnobservable : Obligations.IdleCursorsUnobservable := by
  unfold Obligations.IdleCursorsUnobservable
  intro s t x y hp h
  change step (withCursors s x y) = _ ∨ _ ∧ step (withCursors s x y) = _
  cases ha : nextAgent s with
  | reset =>
    rw [step_of_reset ha] at h
    cases h
    exact .inl (step_of_reset (s := withCursors s x y) ha)
  | seq =>
    have hidle (u : State) (hu : u.phase = .idle) : seqSelect u = .error .seqIdle := by rw [seqSelect_eq, hu]
    rw [step_of_seq_idle ha (hidle s hp)] at h
    cases h
    exact .inr ⟨hp, step_of_seq_idle (s := withCursors s x y) ha (hidle (withCursors s x y) hp)⟩
  | host =>
    rw [step_of_host ha] at h
    rw [step_of_host (s := withCursors s x y) ha]
    rcases exec_itemInstr_of_idle (nextItem s) with e | e | ⟨st, d, e⟩ <;>
      rw [e (hostState s) hp] at h <;> cases h
    · exact .inl (e (hostState (withCursors s x y)) hp)
    · exact .inr ⟨hp, e (hostState (withCursors s x y)) hp⟩
    · exact .inr ⟨hp, e (hostState (withCursors s x y)) hp⟩

end Sys2Proof.Machine
end

section
/-! PROOFS. The tables (20_memory): what keeps their canonical form, which entries a step may write, when a read is of a
constant, and the frame of each operation. -/

namespace Sys2Proof.Machine

/-! ### Canonical form (log 6) -/

theorem tableWf_nil : tableWf [] := ⟨.nil, fun _ hc => nomatch hc⟩

/-- Settles O46: a step empties the tables, writes one entry of each, or leaves them as they were. -/
theorem stepKeepsTablesCanonical : Obligations.StepKeepsTablesCanonical := by
  unfold Obligations.StepKeepsTablesCanonical
  rintro s t ⟨hsb, hsi⟩ h
  unfold TablesCanonical
  rcases step_block_cases h with ⟨-, -, hsb', hsi'⟩ | e | ⟨-, -, e⟩ | ⟨-, -, e⟩ | ⟨-, -, -, e⟩
  · rw [hsb', hsi']; exact ⟨tableWf_nil, tableWf_nil⟩
  · rw [e]; exact ⟨hsb, hsi⟩
  · rw [e]; exact ⟨writeTable_wf _ _ _ hsb, writeTable_wf _ _ _ hsi⟩
  · rw [e]; exact ⟨writeTable_wf _ _ _ hsb, writeTable_wf _ _ _ hsi⟩
  · rw [e]; exact ⟨hsb, hsi⟩

/-! ### Runs without a reset -/

/-- A run that answers after a step and `n` more went through the state that the step answers. -/
theorem of_coreRun_succ {M : Host.Core} {n : Nat} {s t : M.State} (h : M.run (n + 1) s = .next t) :
    ∃ u, M.step s = .next u ∧ M.run n u = .next t := by
  rw [Host.Core.run] at h
  split at h
  · exact ⟨_, ‹_›, h⟩
  · cases h
  · cases h

/-- What every step of an agent other than RESET keeps holds after any listed turns without a reset. -/
theorem run_keeps {P : State → Prop} (hstep : ∀ s t, nextAgent s ≠ .reset → step s = .next t → P s → P t)
    {l rest : List Agent} {s t : State} (hl : s.turns = l ++ rest) (hn : Agent.reset ∉ l)
    (h : Host.Core.run Sys2Proof.core l.length s = .next t) (hs : P s) : P t := by
  induction l generalizing s with
  | nil => cases h; exact hs
  | cons a l ih =>
    obtain ⟨u, hu, hrun⟩ := of_coreRun_succ h
    obtain ⟨ha, hlu⟩ := step_turns s u a (l ++ rest) hl hu
    have hna : nextAgent s ≠ .reset := ha ▸ (List.ne_of_not_mem_cons hn).symm
    exact ih hlu (List.not_mem_of_not_mem_cons hn) hrun (hstep s u hna hu hs)

/-! ### Reads in COMPLETE (R34, R38) -/

/-- Only a reset begins a new epoch. -/
theorem step_epoch {s t : State} (ha : nextAgent s ≠ .reset) (h : step s = .next t) : t.epoch = s.epoch := by
  rcases step_cases s with ⟨hr, -⟩ | ⟨-, -, e⟩ | ⟨-, -, e⟩ | ⟨-, -, e⟩ | ⟨-, -, -, e⟩ | ⟨-, -, -, e⟩ | ⟨-, -, _, _, e⟩
  · exact absurd hr ha
  all_goals rw [e] at h; cases h; rfl

/-- `t` publishes the block of `s`, with the free values of the same reset. -/
abbrev SamePublished (s t : State) : Prop := t.toBlock = s.toBlock ∧ t.epoch = s.epoch

/-- R21: from COMPLETE everything that is published stays, short of a reset. -/
theorem samePublished_of_run {s t : State} {l rest : List Agent} (hp : s.phase = .complete) (hl : s.turns = l ++ rest)
    (hn : Agent.reset ∉ l) (h : Host.Core.run Sys2Proof.core l.length s = .next t) : SamePublished s t := by
  refine run_keeps (fun u v ha hv ⟨hb, he⟩ => ?_) hl hn h ⟨rfl, rfl⟩
  have hpu : u.phase = .complete := by rw [hb, hp]
  exact ⟨(step_block_of_complete hpu ha hv).trans hb, (step_epoch ha hv).trans he⟩

/-- R106, R107: what the reads answer in COMPLETE. -/
theorem exec_rds_of_complete {s : State} (hp : s.phase = .complete) (idx : Byte) :
    exec (.rds idx) s = .next (respond s .ok (publishedSbox s idx)) := if_pos hp

theorem exec_rdi_of_complete {s : State} (hp : s.phase = .complete) (idx : Byte) :
    exec (.rdi idx) s = .next (respond s .ok (publishedSboxInverse s idx)) := if_pos hp

/-- Settles O40: a read answers from the block and the epoch alone, and both stay. -/
theorem readsAreOfConstants : Obligations.ReadsAreOfConstants := by
  unfold Obligations.ReadsAreOfConstants
  intro s t l rest hp hl hn h idx
  obtain ⟨hb, he⟩ := samePublished_of_run hp hl hn h
  have hpt : t.phase = .complete := by rw [hb, hp]
  have hsbox : publishedSbox t idx = publishedSbox s idx := by simp only [publishedSbox, hb, he]
  have hinv : publishedSboxInverse t idx = publishedSboxInverse s idx := by
    simp only [publishedSboxInverse, hb, he]
  refine ⟨_, exec_rds_of_complete hp idx, ?_, _, exec_rdi_of_complete hp idx, ?_⟩
  · rw [exec_rds_of_complete hpt, hsbox]; rfl
  · rw [exec_rdi_of_complete hpt, hinv]; rfl

/-! ### No entry is written twice (R37, R96) -/

/-- Where the entries `f 1 .. f n` are written in turn and none comes twice, the next one still holds no value. -/
theorem readTable_next_eq_none {T : Nat → Table} {f g : Nat → Byte} {n : Nat} (h0 : T 0 = [])
    (hsucc : ∀ k, T (k + 1) = writeTable (T k) (f (k + 1)) (g (k + 1))) (hf : (Set.Icc 1 n).InjOn f)
    {k : Nat} (hk : k + 1 ≤ n) : readTable (T k) (f (k + 1)) = none := by
  by_contra hsome
  obtain ⟨j, h1, hj, he⟩ := (readTable_recorded_ne_none h0 hsucc hf (by omega) _).1 hsome
  have hjk : k + 1 = j := hf ⟨by omega, hk⟩ ⟨h1, by omega⟩ he
  omega

/-- Settles O51: the `k + 1`st STEP writes the entries `3^(k+1)` and `AFF(3^(-(k+1)))`, which none of the first `k` wrote, and
the walk leaves out only the two entries of FIXZERO. -/
theorem noEntryWrittenTwice : Obligations.NoEntryWrittenTwice := by
  unfold Obligations.NoEntryWrittenTwice
  rintro s ⟨hmul3, hginv⟩ hw
  refine ⟨fun hp => ?_, fun hp => ?_⟩
  · obtain ⟨k, hk, hpk, hqk, hsb, hsi⟩ := walk_of_stepEnabled hw hp
    have hp' : gfMulBy3 s.gf s.p = walkP (k + 1) := by rw [hmul3, hpk, walkP]
    have hq' : gfMul s.gf s.q 0xF6 = walkQ (k + 1) := by rw [← constGinv, hginv, hqk, walkQ]
    rw [hp', hq', hsb, hsi]
    exact ⟨(exists_walkP_iff _).1 ⟨k + 1, by omega, by omega, rfl⟩,
      (exists_affine_walkQ_iff _).1 ⟨k + 1, by omega, by omega, rfl⟩,
      readTable_next_eq_none (g := fun k => affine (walkQ k)) rfl (fun _ => rfl) walkP_injOn (by omega),
      readTable_next_eq_none (f := fun k => affine (walkQ k)) (g := walkP) rfl (fun _ => rfl) affine_walkQ_injOn (by omega)⟩
  · unfold Walk at hw
    rw [hp] at hw
    obtain ⟨-, -, hsb, hsi⟩ := hw
    rw [hsb, hsi]
    exact ⟨(readTable_walkSbox_eq_none 0x00).2 rfl, (readTable_walkInverse_eq_none 0x63).2 rfl⟩

/-! ### Frames (R36, R100) -/

/-- The rows of format SUB (R58). -/
def isSub : Instr → Bool
  | .init | .advp | .advq | .aff | .record | .loopt => true
  | _ => false

/-- Everything an operation that records nothing can do: it is no sub-operation, and it answers and changes nothing else; it
starts a generation; it is a WAITRDY that is issued again; or it is a sub-operation with the effect of its rule. -/
theorem exec_nonRecording_cases {i : Instr} {s t : State} (hstep : i ≠ .step) (hfix : i ≠ .fixzero) (hrec : i ≠ .record)
    (h : exec i s = .next t) :
    isSub i = false ∧ (∃ st d, t = respond s st d) ∨
    (∃ idx, i = .gen idx) ∧ s.phase = .idle ∧ t = opStat { opInit s with phase := .armed } ∨
    i = .waitrdy ∧ t = { opStat s with cmds := .waitRdy :: s.cmds } ∨
    i = .init ∧ t = opInit s ∨ i = .advp ∧ t = opAdvp s ∨ i = .advq ∧ t = opAdvq s ∨ i = .aff ∧ t = opAff s ∨
    i = .loopt ∧ t = opLoopt s := by
  have answers {st d} (hi : isSub i = false) (e : exec i s = .next (respond s st d)) :
      isSub i = false ∧ ∃ st d, t = respond s st d := by
    rw [e] at h; cases h; exact ⟨hi, st, d, rfl⟩
  cases i with
  | step => exact absurd rfl hstep
  | fixzero => exact absurd rfl hfix
  | record => exact absurd rfl hrec
  | nop | stat => exact .inl (answers rfl rfl)
  | rsvd05 | rsvd0607 | rsvd080F | rsvd101F | rsvd203F | rsvd407F | rsvd80FF =>
    exact .inl (answers rfl (exec_reserved _ s rfl))
  | rds idx =>
    obtain ⟨st, d, e⟩ := execRds_respond idx s
    exact .inl (answers rfl e)
  | rdi idx =>
    obtain ⟨st, d, e⟩ := execRdi_respond idx s
    exact .inl (answers rfl e)
  | gen idx =>
    rcases execGen_cases idx s with ⟨hp, e⟩ | ⟨-, e⟩
    · cases e.symm.trans h; exact .inr (.inl ⟨⟨idx, rfl⟩, hp, rfl⟩)
    · exact .inl (answers rfl e)
  | waitrdy =>
    rcases execWaitrdy_cases s with ⟨-, e⟩ | ⟨-, e⟩
    · exact .inl (answers rfl e)
    · cases e.symm.trans h; exact .inr (.inr (.inl ⟨rfl, rfl⟩))
  | init | advp | advq | aff | loopt => cases h; simp

/-- Settles O59: each of the effects of an operation that records nothing, field by field. -/
theorem frameOfNonRecordingOperations : Obligations.FrameOfNonRecordingOperations := by
  unfold Obligations.FrameOfNonRecordingOperations
  intro i s t hstep hfix hrec h
  rcases exec_nonRecording_cases hstep hfix hrec h with ⟨hsub, st, d, rfl⟩ | ⟨⟨idx, rfl⟩, hp, rfl⟩ | ⟨rfl, rfl⟩ | ⟨rfl, rfl⟩ |
    ⟨rfl, rfl⟩ | ⟨rfl, rfl⟩ | ⟨rfl, rfl⟩ | ⟨rfl, rfl⟩
  · have hrsp : ¬(i = .init ∨ i = .advp ∨ i = .advq ∨ i = .aff ∨ i = .loopt) := by
      rintro (rfl | rfl | rfl | rfl | rfl) <;> cases hsub
    simp [hrsp]
  · simp [isGen, hp]
  all_goals simp [isGen]

/-- What is read after the pair `x`, `a` is recorded both ways: that pair, and otherwise what was there. -/
theorem readTable_of_recorded {sb si sb' si' : Table} {x a : Byte} (hsb : sb' = writeTable sb x a)
    (hsi : si' = writeTable si a x) :
    readTable sb' x = some a ∧ readTable si' a = some x ∧ (∀ y, y ≠ x → readTable sb' y = readTable sb y) ∧
    (∀ y, y ≠ a → readTable si' y = readTable si y) := by
  simp +contextual [hsb, hsi, readTable_writeTable]

theorem eq_of_execStep_next {s t : State} (h : execStep s = .next t) : t = opLoopt (opRec (opAff (opAdvq (opAdvp s)))) := by
  unfold execStep at h; split at h <;> cases h; rfl

theorem eq_of_execFixzero_next {s t : State} (h : execFixzero s = .next t) : t = opFixzero s := by
  unfold execFixzero at h; split at h <;> cases h; rfl

/-- Settles O60: each of the three records its pair both ways, and the rest field by field. -/
theorem frameOfRecordingOperations : Obligations.FrameOfRecordingOperations := by
  unfold Obligations.FrameOfRecordingOperations
  rintro i s t x a (⟨rfl, rfl, rfl⟩ | ⟨rfl, rfl, rfl⟩ | ⟨rfl, rfl, rfl⟩) h
  · obtain rfl := eq_of_execStep_next h
    obtain ⟨hx, ha, hsb, hsi⟩ := readTable_of_recorded (opRec_sbox (opAff (opAdvq (opAdvp s)))) (opRec_sboxInverse _)
    exact ⟨hx, ha, hsb, hsi, by simp⟩
  · cases h
    obtain ⟨hx, ha, hsb, hsi⟩ := readTable_of_recorded (opRec_sbox s) (opRec_sboxInverse s)
    exact ⟨hx, ha, hsb, hsi, by simp⟩
  · obtain rfl := eq_of_execFixzero_next h
    obtain ⟨hx, ha, hsb, hsi⟩ := readTable_of_recorded (opFixzero_sbox s) (opFixzero_sboxInverse s)
    exact ⟨hx, ha, hsb, hsi, by simp⟩

end Sys2Proof.Machine
end

section
/-! PROOFS. The two selectors (30_encoding R46, R48, R50 to R52, R56 to R58): decoding and encoding undo each other, and every
selector value matches the row of the operation it decodes to and no other. -/

namespace Sys2Proof.Laws.RowOfEncoding

/-- R48, R50, R52, R57, R58: the place of every operation in the opcode table. -/
theorem statement (i : Instr) : Statement i :=
  match i with
  | .nop idx => nop idx
  | .gen idx => gen idx
  | .rds idx => rds idx
  | .rdi idx => rdi idx
  | .stat idx => stat idx
  | .rsvd05 idx => rsvd05 idx
  | .rsvd0607 opc idx => rsvd0607 opc idx
  | .rsvd080F opc idx => rsvd080F opc idx
  | .rsvd101F opc idx => rsvd101F opc idx
  | .rsvd203F opc idx => rsvd203F opc idx
  | .rsvd407F opc idx => rsvd407F opc idx
  | .rsvd80FF opc idx => rsvd80FF opc idx
  | .step => step
  | .fixzero => fixzero
  | .init => init
  | .advp => advp
  | .advq => advq
  | .aff => aff
  | .record => record
  | .loopt => loopt
  | .waitrdy => waitrdy

end Sys2Proof.Laws.RowOfEncoding

namespace Sys2Proof.Machine

/-- The row that a selector of a well-formed operation matches is that operation's own. -/
theorem exists_row_of_encode {i : Instr} {e : Selector} (hwf : i.wellFormed = true) (he : encode i = some e) :
    ∃ r ∈ commandRows ++ sequencerRows, r.mnemonic = mnemonicOf i ∧ rowSelects r e = true := by
  simpa only [he] using Laws.RowOfEncoding.statement i hwf

theorem exists_skippedRow_of_encode_eq_none {i : Instr} (hwf : i.wellFormed = true) (he : encode i = none) :
    ∃ r ∈ skippedRows, r.mnemonic = mnemonicOf i := by
  simpa only [he] using Laws.RowOfEncoding.statement i hwf

/-- R57, R58: no mnemonic stands both in a row that is decoded and in one that is skipped. -/
theorem mnemonic_ne_of_skipped :
    ∀ r ∈ commandRows ++ sequencerRows, ∀ r' ∈ skippedRows, r'.mnemonic ≠ r.mnemonic := by decide

theorem encode_eq_none_iff {i : Instr} (hwf : i.wellFormed = true) :
    encode i = none ↔ ∃ r ∈ skippedRows, r.mnemonic = mnemonicOf i := by
  refine ⟨exists_skippedRow_of_encode_eq_none hwf, fun ⟨r', hr', hmn'⟩ => ?_⟩
  by_contra hne
  obtain ⟨e, he⟩ := Option.ne_none_iff_exists'.1 hne
  obtain ⟨r, hr, hmn, -⟩ := exists_row_of_encode hwf he
  exact mnemonic_ne_of_skipped r hr r' hr' (hmn'.trans hmn.symm)

/-! ### Decoding what was encoded -/

/-- R50: from the code 0x05 on a command word is a reserved one. -/
theorem decodeCmd_commandWord_of_le (opc idx : Byte) (h : 0x05 ≤ opc.toNat) :
    decodeCmd (commandWord opc idx) = decodeReserved opc idx := by
  rcases decodeCmd_cases (commandWord opc idx) with ⟨e, -⟩ | ⟨e, -⟩ | ⟨e, -⟩ | ⟨e, -⟩ | ⟨e, -⟩ | ⟨-, e⟩ <;>
    rw [opcOf_commandWord] at e
  case inr.inr.inr.inr.inr => rwa [idxOf_commandWord] at e
  all_goals rw [e] at h; exact absurd h (by decide)

/-- R50: the ranges of the reserved rows tell which row a code belongs to. -/
theorem decodeReserved_of_wellFormed {i : Instr} (hr : isReserved i = true) (hwf : i.wellFormed = true) :
    ∃ opc idx, encode i = some (.cmd (commandWord opc idx)) ∧ 0x05 ≤ opc.toNat ∧ decodeReserved opc idx = i := by
  cases i with
  | rsvd05 idx => exact ⟨0x05, idx, rfl, by decide, rfl⟩
  | rsvd0607 opc idx | rsvd080F opc idx | rsvd101F opc idx | rsvd203F opc idx | rsvd407F opc idx | rsvd80FF opc idx =>
    simp only [Instr.wellFormed, inRange, Bool.and_eq_true, decide_eq_true_eq, BitVec.ofNat_eq_ofNat,
      BitVec.reduceToNat] at hwf
    refine ⟨opc, idx, rfl, by omega, ?_⟩
    simp (disch := omega) only [decodeReserved, if_neg, if_pos]
  | _ => cases hr

theorem decode_of_encode {i : Instr} {e : Selector} (hwf : i.wellFormed = true) (he : encode i = some e) :
    decode e = .ok i := by
  by_cases hr : isReserved i = true
  · obtain ⟨opc, idx, he', hopc, hi⟩ := decodeReserved_of_wellFormed hr hwf
    cases he.symm.trans he'
    rw [decode, decodeCmd_commandWord_of_le opc idx hopc, hi]
  · cases i with
    | nop | gen | rds | rdi | stat => cases he; simp [decode, decodeCmd]
    | step | fixzero => cases he; rfl
    | rsvd05 | rsvd0607 | rsvd080F | rsvd101F | rsvd203F | rsvd407F | rsvd80FF => exact absurd rfl hr
    | init | advp | advq | aff | record | loopt | waitrdy => cases he

/-- Settles O1: decoding gives every operand bit back, and the table's law says which operations have no encoding. -/
theorem decodeUndoesEncode : Obligations.DecodeUndoesEncode := by
  unfold Obligations.DecodeUndoesEncode
  exact fun i hwf => ⟨fun _ => decode_of_encode hwf, encode_eq_none_iff hwf⟩

theorem decodeCmd_of_encode {i : Instr} {w : Word} (hwf : i.wellFormed = true) (he : encode i = some (.cmd w)) :
    decodeCmd w = i :=
  Except.ok.inj (decode_of_encode hwf he)

/-- Settles O4: the fields of each word. -/
theorem specWordsDecode : Obligations.SpecWordsDecode := by
  unfold Obligations.SpecWordsDecode
  exact ⟨rfl, rfl, rfl, rfl, rfl, rfl, rfl, rfl, rfl, rfl, rfl⟩

/-- Settles O5: no meaning and no canonical word of the three looks at `idx`. -/
theorem indexIgnoredAndCanonicalWords : Obligations.IndexIgnoredAndCanonicalWords := by
  unfold Obligations.IndexIgnoredAndCanonicalWords
  exact ⟨fun i j s => ⟨rfl, rfl, rfl⟩, fun i => ⟨rfl, rfl, rfl⟩,
    fun i => ⟨decodeCmd_of_encode rfl rfl, decodeCmd_of_encode rfl rfl, decodeCmd_of_encode rfl rfl⟩⟩

/-! ### Encoding what was decoded -/

/-- R59, R112: the operation that a command word decodes to has that word as its encoding. -/
theorem encode_decodeCmd (w : Word) : encode (decodeCmd w) = some (.cmd w) := by
  rcases decodeCmd_cases w with ⟨ho, e⟩ | ⟨ho, e⟩ | ⟨ho, e⟩ | ⟨ho, e⟩ | ⟨ho, e⟩ | ⟨ho, e⟩ <;> rw [e]
  case inr.inr.inr.inr.inr =>
    rw [(decodeReserved_encode _ _ ho).2, commandWord_opcOf_idxOf]
  all_goals rw [encode, ← ho, commandWord_opcOf_idxOf]

/-- An operation that some selector selects has an encoding. -/
theorem encode_ne_none_of_decode {sel : Selector} {i : Instr} (h : decode sel = .ok i) : encode i ≠ none := by
  cases sel with
  | cmd w =>
    cases h
    rw [encode_decodeCmd]
    exact Option.some_ne_none _
  | seq sel =>
    rw [decode] at h
    rcases decodeSeq_cases sel with ⟨-, e⟩ | ⟨-, e⟩ | ⟨-, e⟩ | ⟨-, e⟩ <;> rw [e] at h <;> cases h <;>
      exact Option.some_ne_none _

/-! ### One row for each selector value -/

/-- Two rows that ask for different values of bits both of them look at select no common word. -/
theorem not_both_select {r r' : Row} (h : r.pattern &&& r'.mask ≠ r'.pattern &&& r.mask) (w : Word) :
    ¬(rowSelects r (.cmd w) = true ∧ rowSelects r' (.cmd w) = true) := by
  simp only [rowSelects, Bool.and_eq_true, beq_iff_eq]
  rintro ⟨⟨-, hr⟩, ⟨-, hr'⟩⟩
  refine h ?_
  rw [← hr, ← hr', BitVec.and_assoc, BitVec.and_assoc, BitVec.and_comm r.mask]

/-- R48, R50: the rows of the command word exclude each other. -/
theorem commandRows_exclusive :
    commandRows.Pairwise (fun r r' => r.pattern &&& r'.mask ≠ r'.pattern &&& r.mask) := by decide

/-- Where no two members satisfy `p`, one that does is all of the list that does. -/
theorem filter_eq_singleton {α : Type} {p : α → Bool} {l : List α} {a : α}
    (hl : l.Pairwise (fun b c => ¬(p b = true ∧ p c = true))) (ha : a ∈ l) (hp : p a = true) : l.filter p = [a] := by
  induction l with
  | nil => cases ha
  | cons b l ih =>
    obtain ⟨hb, hl⟩ := List.pairwise_cons.1 hl
    rcases List.mem_cons.1 ha with rfl | ha
    · have hrest : l.filter p = [] := List.filter_eq_nil_iff.2 fun c hc hpc => hb c hc ⟨hp, hpc⟩
      rw [List.filter_cons_of_pos hp, hrest]
    · rw [List.filter_cons_of_neg fun hpb => hb a ha ⟨hpb, hp⟩, ih hl ha]

/-- R52: the rows of the sequencer have the width of its selector. -/
theorem not_rowSelects_cmd_of_sequencerRow {r : Row} (hr : r ∈ sequencerRows) (w : Word) :
    ¬ rowSelects r (.cmd w) = true := by
  have hwidth : ∀ r ∈ sequencerRows, (r.width == 16) = false := by decide
  simp [rowSelects, hwidth r hr]

/-- Settles O3: a command word selects the row of the operation it encodes, and the rows exclude each other; the eight values
of the sequencer's selector are looked up. -/
theorem oneRowPerSelectorValue : Obligations.OneRowPerSelectorValue := by
  unfold Obligations.OneRowPerSelectorValue
  refine ⟨fun w => ?_, fun sel => ?_⟩
  · obtain ⟨r, hr, hmn, hsel⟩ := exists_row_of_encode (wellFormed_decodeCmd w) (encode_decodeCmd w)
    rcases List.mem_append.1 hr with hr | hr
    · exact ⟨r, filter_eq_singleton (commandRows_exclusive.imp fun h => not_both_select h w) hr hsel, hmn⟩
    · exact absurd hsel (not_rowSelects_cmd_of_sequencerRow hr w)
  · rcases decodeSeq_cases sel with ⟨rfl | rfl, e⟩ | ⟨rfl, e⟩ | ⟨rfl | rfl, e⟩ | ⟨rfl | rfl | rfl, e⟩ <;> rw [e]
    case inl.inl | inl.inr | inr.inl => exact ⟨_, rfl, rfl⟩
    all_goals rfl

end Sys2Proof.Machine
end

section
/-! PROOFS. What the consumer gets back (30_encoding R47, R49, R57; 60_exceptions R117). -/

namespace Sys2Proof.Machine

@[simp] theorem statusOf_responseWord (st : Status) (d : Byte) : statusOf (responseWord st d) = statusCode st :=
  opcOf_commandWord (statusCode st) d

@[simp] theorem dataOf_responseWord (st : Status) (d : Byte) : dataOf (responseWord st d) = d :=
  idxOf_commandWord (statusCode st) d

/-- R117: `t` is `s` after an answered command; a refusal has the data byte 0x00 and leaves the block as it was. -/
def Answered (s t : State) : Prop :=
  ∃ st d, t.rsp = some (responseWord st d) ∧ (st ≠ .ok → d = 0x00 ∧ t.toBlock = s.toBlock)

theorem answered_of_ok {s t : State} {d : Byte} (h : t.rsp = some (responseWord .ok d)) : Answered s t :=
  ⟨.ok, d, h, fun hne => absurd rfl hne⟩

theorem answered_respond_zero (s : State) (st : Status) : Answered s (respond s st 0x00) :=
  ⟨st, 0x00, rfl, fun _ => ⟨rfl, rfl⟩⟩

/-- R103, R117: every command that the consumer presents is answered. -/
theorem exec_itemInstr_answered (x : HostItem) (s : State) : ∃ t, exec (itemInstr x) s = .next t ∧ Answered s t := by
  cases x with
  | waitRdy =>
    rcases execWaitrdy_cases s with ⟨-, e⟩ | ⟨-, e⟩ <;> exact ⟨_, e, answered_of_ok rfl⟩
  | word w =>
    rw [itemInstr]
    rcases decodeCmd_cases w with ⟨-, e⟩ | ⟨-, e⟩ | ⟨-, e⟩ | ⟨-, e⟩ | ⟨-, e⟩ | ⟨-, e⟩ <;> rw [e]
    · exact ⟨_, rfl, answered_of_ok rfl⟩
    · rcases execGen_cases (idxOf w) s with ⟨-, e⟩ | ⟨-, e⟩ <;> exact ⟨_, e, answered_of_ok rfl⟩
    · by_cases hp : s.phase = .complete
      · exact ⟨_, exec_rds_of_complete hp _, answered_of_ok rfl⟩
      · exact ⟨_, if_neg hp, answered_respond_zero _ _⟩
    · by_cases hp : s.phase = .complete
      · exact ⟨_, exec_rdi_of_complete hp _, answered_of_ok rfl⟩
      · exact ⟨_, if_neg hp, answered_respond_zero _ _⟩
    · exact ⟨_, rfl, answered_of_ok rfl⟩
    · exact ⟨_, exec_reserved _ s (isReserved_decodeReserved _ _), answered_respond_zero _ _⟩

/-- R49: there are three status codes. -/
theorem statusCode_cases (st : Status) : statusCode st = 0x00 ∨ statusCode st = 0x01 ∨ statusCode st = 0x02 := by
  cases st <;> decide

theorem step_rsp_of_not_host {s t : State} (ha : nextAgent s ≠ .host) (h : step s = .next t) : t.rsp = none := by
  rcases step_cases s with ⟨-, e⟩ | ⟨-, -, e⟩ | ⟨-, -, e⟩ | ⟨-, -, e⟩ | ⟨hh, -⟩ | ⟨hh, -⟩ | ⟨hh, -⟩
  case inr.inr.inr.inr.inl | inr.inr.inr.inr.inr.inl | inr.inr.inr.inr.inr.inr => exact absurd hh ha
  all_goals rw [e] at h; cases h; rfl

/-- Settles O14: a step of HOST is an answered command on the block as it was, and every other step clears the port. -/
theorem refusalsChangeNothing : Obligations.RefusalsChangeNothing := by
  unfold Obligations.RefusalsChangeNothing
  refine fun s t h => ⟨fun ha => step_rsp_of_not_host ha h, fun ha => ?_⟩
  obtain ⟨t', e, st, d, hrsp, hrefused⟩ := exec_itemInstr_answered (nextItem s) (hostState s)
  rw [step_of_host ha, e] at h
  cases h
  refine ⟨_, hrsp, ?_, fun hst => ?_⟩
  · rw [statusOf_responseWord]; exact statusCode_cases st
  · obtain ⟨hd, hb⟩ := hrefused (fun e => hst (by rw [e]; exact statusOf_responseWord .ok d))
    rw [dataOf_responseWord, hb]
    exact ⟨hd, rfl, rfl, rfl, rfl, rfl⟩

/-- Settles O15: WAITRDY is a STAT, whose response is 0x0006 in COMPLETE only. -/
theorem waitrdyRepeatsStat : Obligations.WaitrdyRepeatsStat := by
  unfold Obligations.WaitrdyRepeatsStat
  intro s
  have hstat : responseWord .ok (phaseByte s.phase) = 0x0006 ↔ s.phase = .complete := stat_ready_iff s.phase
  rcases execWaitrdy_cases s with ⟨hp, e⟩ | ⟨hp, e⟩
  · refine ⟨fun _ => ?_, fun hne => absurd hp hne⟩
    rw [← hstat.2 hp]
    exact e
  · exact ⟨fun hp' => absurd hp' hp, fun _ => ⟨_, mt hstat.1 hp, rfl, e⟩⟩

end Sys2Proof.Machine
end

section
/-! PROOFS. What `phase` selects, what the selected operations are made of, and how a word is placed (30_encoding R52, R58). -/

namespace Sys2Proof.Machine

/-- R52: outside the phases that select it, STEP has no meaning (log 9). -/
theorem execStep_refused_iff (s : State) :
    execStep s = .refused .notEnabled ↔ ¬(s.phase = .armed ∨ s.phase = .cycling) := by
  rw [execStep, ← stepEnabled_iff]
  split <;> simp [*]

theorem execFixzero_refused_iff (s : State) : execFixzero s = .refused .notEnabled ↔ s.phase ≠ .fixup := by
  rw [execFixzero, ne_eq, ← fixzeroEnabled_iff]
  split <;> simp [*]

/-- Settles O19: the selection phase by phase, and the two refusals. -/
theorem phaseSelectsMicroOperation : Obligations.PhaseSelectsMicroOperation := by
  unfold Obligations.PhaseSelectsMicroOperation
  intro s
  refine ⟨?_, ?_, ?_, execStep_refused_iff s, execFixzero_refused_iff s⟩ <;> rw [seqSelect_eq] <;>
    cases s.phase <;> simp

/-- Settles O17: both operations are written as their parts, and what a selector decodes to has an encoding. -/
theorem operationsAreTheirParts : Obligations.OperationsAreTheirParts := by
  unfold Obligations.OperationsAreTheirParts
  refine ⟨fun s hp => execStep_next s hp, fun idx s hp => ?_, fun sel i hi => ?_⟩
  · have hrsp : (0x0001 : Word) = responseWord .ok (phaseByte .armed) := by decide
    rw [exec, execGen, if_pos hp, hrsp]
    rfl
  · have hnone : ∀ i ∈ [Instr.init, .advp, .advq, .aff, .record, .loopt], encode i = none := by decide
    exact ⟨hnone i hi, fun h => encode_ne_none_of_decode h (hnone i hi)⟩

/-! ### Placed words (log 14, log 15) -/

/-- A selector that selects a micro-operation is the code of a phase. -/
theorem phaseOfBits_of_decodeSeq {b : Sel} {i : Instr} (h : decodeSeq b = .ok i) :
    ∃ ph, phaseOfBits b = some ph ∧ phaseBits ph = b := by
  rcases decodeSeq_cases b with ⟨rfl | rfl, -⟩ | ⟨rfl, -⟩ | ⟨-, e⟩ | ⟨-, e⟩
  · exact ⟨.armed, rfl, rfl⟩
  · exact ⟨.cycling, rfl, rfl⟩
  · exact ⟨.fixup, rfl, rfl⟩
  all_goals rw [e] at h; cases h

theorem decodeTableWord_selector {n : Nat} {i : Instr} (h : decodeTableWord 8 n = some i) :
    decodeSeq (BitVec.ofNat 3 n) = .ok i := by
  unfold decodeTableWord at h
  rw [if_pos le_rfl] at h
  split at h <;> cases h
  assumption

theorem decodeTableWord_command (w : Word) : decodeTableWord 16 w.toNat = some (decodeCmd w) := by
  rw [decodeTableWord, if_neg (by decide), if_pos le_rfl, BitVec.ofNat_toNat, BitVec.setWidth_eq]

theorem withFetchWord_command (s : State) (w : Word) :
    s.withFetchWord 16 w.toNat = { s with cmds := .word w :: s.cmds, turns := .host :: s.turns } := by
  rw [State.withFetchWord, placeWord, if_neg (by decide), BitVec.ofNat_toNat, BitVec.setWidth_eq]

theorem withFetchWord_selector (s : State) {n : Nat} {ph : Phase} (h : phaseOfBits (BitVec.ofNat 3 n) = some ph) :
    s.withFetchWord 8 n = { s with phase := ph, turns := .seq :: s.turns } := by
  rw [State.withFetchWord, placeWord, if_pos le_rfl, h, Option.getD_some]

/-- Settles O37: a placed word is the item and the turn listed first; a placed selector is the phase and the turn. -/
theorem placedWordRunsNext : Obligations.PlacedWordRunsNext := by
  unfold Obligations.PlacedWordRunsNext
  refine ⟨fun s w => ⟨decodeTableWord_command w, ?_⟩, fun s n i h => ?_⟩
  · rw [withFetchWord_command, step_of_host_item rfl rfl, itemInstr]
  · have hsel := decodeTableWord_selector h
    obtain ⟨ph, hph, hbits⟩ := phaseOfBits_of_decodeSeq hsel
    refine ⟨ph, hbits, ?_⟩
    rw [withFetchWord_selector s hph, step_of_seq (nextAgent_of_turns rfl) (by rw [seqSelect, hbits, hsel]),
      takeTurn_of_turns rfl]

end Sys2Proof.Machine
end

section
/-! PROOFS. The laws of the reference product (40_gf_arithmetic R60, R61, R63 to R65, R68). A nonzero byte is a power of 3, so what
holds of 0x00 and of `ONE` and is kept by a multiplication by 3 holds of every byte. -/

namespace Sys2Proof.Machine

/-- Settles O31: the forward cursor returns to `ONE` after 255 STEPs, and visits the nonzero bytes until then. -/
theorem threeGeneratesTheGroup : Obligations.ThreeGeneratesTheGroup := by
  unfold Obligations.ThreeGeneratesTheGroup
  refine ⟨walkP_255, fun k => walkP_ne_one, fun k => ?_, fun x hx => ?_⟩
  · rw [walkP_eq_iterate]; exact cyclesNonzero_refMulBy3.iterate_ne_zero k
  · obtain ⟨k, h1, h255, rfl⟩ := (exists_walkP_iff x).2 hx
    exact ⟨k, h1, h255, rfl, fun j hj1 hj255 hj => walkP_injOn ⟨hj1, hj255⟩ ⟨h1, h255⟩ hj⟩

/-! ### Induction along the powers of 3 -/

/-- R68 as an induction principle. -/
theorem refMulBy3_induction {P : Byte → Prop} (zero : P 0x00) (one : P constOne) (mulBy3 : ∀ a, P a → P (refMulBy3 a))
    (a : Byte) : P a := by
  by_cases ha : a = 0x00
  · exact ha ▸ zero
  · obtain ⟨k, -, -, rfl⟩ := (exists_walkP_iff a).2 ha
    clear ha
    induction k with
    | zero => exact one
    | succ k ih => exact mulBy3 _ ih

/-! ### Zero, one, and a factor 3 on the right -/

theorem refMul_zero (a : Byte) : refMul a 0x00 = 0x00 := by
  induction a using refMulBy3_induction with
  | zero => exact zero_refMul _
  | one => exact one_refMul _
  | mulBy3 a ih => rw [refMul_refMulBy3, ih, cyclesNonzero_refMulBy3.map_zero]

theorem refMul_one (a : Byte) : refMul a constOne = a := by
  induction a using refMulBy3_induction with
  | zero => exact zero_refMul _
  | one => exact one_refMul _
  | mulBy3 a ih => rw [refMul_refMulBy3, ih]

theorem refMul_refMulBy3_right (a b : Byte) : refMul a (refMulBy3 b) = refMulBy3 (refMul a b) := by
  induction a using refMulBy3_induction with
  | zero => rw [zero_refMul, zero_refMul, cyclesNonzero_refMulBy3.map_zero]
  | one => rw [one_refMul, one_refMul]
  | mulBy3 a ih => rw [refMul_refMulBy3, ih, refMul_refMulBy3]

theorem three_eq_refMulBy3_one : (0x03 : Byte) = refMulBy3 constOne := by decide

/-- R64: `mulBy3` is multiplication by 0x03, the first power of 3. -/
theorem refMulBy3_eq_refMul_three (a : Byte) : refMulBy3 a = refMul a 0x03 := by
  rw [three_eq_refMulBy3_one, refMul_refMulBy3_right, refMul_one]

/-- Settles O30: a factor 3 moves out of a product with `GINV`, and multiplying by `GINV` undoes multiplying by 3. -/
theorem inversePairContract : Obligations.InversePairContract := by
  unfold Obligations.InversePairContract
  refine ⟨refMulBy3_eq_refMul_three, cyclesNonzero_refMulBy3.map_zero, ?_, divBy3_refMulBy3⟩
  rw [three_eq_refMulBy3_one]; exact divBy3_refMulBy3 constOne

/-! ### The laws of the field's multiplication -/

theorem refMul_comm (a b : Byte) : refMul a b = refMul b a := by
  induction a using refMulBy3_induction with
  | zero => rw [zero_refMul, refMul_zero]
  | one => rw [one_refMul, refMul_one]
  | mulBy3 a ih => rw [refMul_refMulBy3, refMul_refMulBy3_right, ih]

theorem refMul_assoc (a b c : Byte) : refMul (refMul a b) c = refMul a (refMul b c) := by
  induction a using refMulBy3_induction with
  | zero => simp only [zero_refMul]
  | one => simp only [one_refMul]
  | mulBy3 a ih => simp only [refMul_refMulBy3, ih]

theorem refMul_xor (a b c : Byte) : refMul a (b ^^^ c) = refMul a b ^^^ refMul a c := by
  induction a using refMulBy3_induction with
  | zero => simp only [zero_refMul]; exact BitVec.xor_self.symm
  | one => simp only [one_refMul]
  | mulBy3 a ih => simp only [refMul_refMulBy3, ih, refMulBy3_xor]

/-- The inverse of `3^k` is the backward cursor at `k`. -/
theorem exists_refMul_eq_one {a : Byte} (ha : a ≠ 0x00) : ∃ b, refMul a b = constOne := by
  obtain ⟨k, -, -, rfl⟩ := (exists_walkP_iff a).2 ha
  exact ⟨walkQ k, refMul_walkP_walkQ k⟩

theorem refMul_inverse_unique {a b c : Byte} (hb : refMul a b = constOne) (hc : refMul a c = constOne) : c = b :=
  calc c = refMul (refMul b a) c := by rw [refMul_comm b a, hb, one_refMul]
    _ = b := by rw [refMul_assoc, hc, refMul_one]

/-- Settles O29: each law by induction along the powers of 3, and the inverse from the two cursors. -/
theorem fieldLaws : Obligations.FieldLaws := by
  unfold Obligations.FieldLaws
  refine ⟨refMul_comm, refMul_assoc, refMul_xor, fun a => ⟨refMul_zero a, refMul_one a⟩, fun a ha => ?_⟩
  obtain ⟨b, hb⟩ := exists_refMul_eq_one ha
  exact ⟨b, hb, fun c hc => refMul_inverse_unique hb hc⟩

end Sys2Proof.Machine
end

section
/-! PROOFS. The generator cycle (41_generator_cycle R71 to R78, R80, R84): the sub-operations, one iteration of the loop, the
transitions of `phase`, and how many turns of SEQ a generation takes. -/

namespace Sys2Proof.Machine

/-! ### The parts of GEN and STEP -/

/-- Settles O20. -/
theorem initSetsBothCursors : Obligations.InitSetsBothCursors := by
  unfold Obligations.InitSetsBothCursors
  exact fun s => rfl

/-- Settles O21: the argument is `p`, and the default collaborator's `mulBy3` is the formula of R64. -/
theorem advpMultipliesByThree : Obligations.AdvpMultipliesByThree := by
  unfold Obligations.AdvpMultipliesByThree
  have hadvp (s : State) : exec .advp s = .next { s with p := gfMulBy3 s.gf s.p } := rfl
  refine ⟨hadvp, fun s hgf => ?_⟩
  rw [hadvp, hgf, gfMulBy3, refMulBy3]

/-- Settles O22: the arguments are `q` and 0xF6, and the default collaborator's `mul` is the product of R63. -/
theorem advqDividesByThree : Obligations.AdvqDividesByThree := by
  unfold Obligations.AdvqDividesByThree
  have hadvq (s : State) : exec .advq s = .next { s with q := gfMul s.gf s.q 0xF6 } := rfl
  refine ⟨hadvq, fun s hgf => ?_⟩
  rw [hadvq, hgf, gfMul]

/-- Settles O25. -/
theorem loopTestOnNewP : Obligations.LoopTestOnNewP := by
  unfold Obligations.LoopTestOnNewP
  exact fun s => rfl

/-! ### What a turn of SEQ and a turn of HOST do -/

/-- R52: the mask tells STEP's two selectors from the other six. -/
theorem decodeSeq_eq_step_iff (sel : Sel) : decodeSeq sel = .ok .step ↔ sel &&& 0b101#3 = 0b001#3 := by
  unfold decodeSeq
  split_ifs <;> simp [*]

/-- Settles O16: the selection of STEP, and its parts put together. -/
theorem stepIsOneLoopIteration : Obligations.StepIsOneLoopIteration := by
  unfold Obligations.StepIsOneLoopIteration
  refine ⟨decodeSeq_eq_step_iff, fun ph => ?_, fun s hp => ?_⟩
  · rw [← stepEnabled_iff, stepEnabled, beq_iff_eq]
  · exact (execStep_next s hp).trans (congrArg _ (step_parts s))

/-- In ARMED and CYCLING a turn of SEQ is a STEP (R52, R76). -/
theorem step_of_stepEnabled {s : State} (ha : nextAgent s = .seq) (hp : s.phase = .armed ∨ s.phase = .cycling) :
    step s = .next (opLoopt (opRec (opAff (opAdvq (opAdvp (takeTurn s)))))) := by
  have hsel : seqSelect s = .ok .step := (decodeSeq_eq_step_iff _).2 (beq_iff_eq.1 ((stepEnabled_iff _).2 hp))
  rw [step_of_seq ha hsel]
  exact execStep_next (takeTurn s) hp

/-- In FIXUP a turn of SEQ is a FIXZERO (R52, R95). -/
theorem step_of_fixup {s : State} (ha : nextAgent s = .seq) (hp : s.phase = .fixup) :
    step s = .next (opFixzero (takeTurn s)) := by
  have hsel : seqSelect s = .ok .fixzero := by rw [seqSelect_eq, hp]
  rw [step_of_seq ha hsel]
  exact execFixzero_next (takeTurn s) hp

/-- R103: outside IDLE HOST writes nothing of the block. -/
theorem step_block_of_host {s t : State} (ha : nextAgent s = .host) (hp : s.phase ≠ .idle) (h : step s = .next t) :
    t.toBlock = s.toBlock := by
  rcases step_block_cases h with ⟨ha', -⟩ | e | ⟨ha', -⟩ | ⟨ha', -⟩ | ⟨-, -, hp', -⟩
  case inr.inl => exact e
  case inr.inr.inr.inr => exact absurd hp' hp
  all_goals cases ha.symm.trans ha'

/-! ### The transition relation of `phase` (R78) -/

theorem phaseAfter_seq_of_stepEnabled {ph : Phase} (hp : ph = .armed ∨ ph = .cycling) (i : Instr) (newP : Byte) :
    phaseAfter .seq i newP ph = if newP = constOne then .fixup else .cycling := by
  rcases hp with rfl | rfl <;> rfl

/-- HOST's only transition is GEN in IDLE. -/
theorem phaseAfter_host_of_not_start {i : Instr} {ph : Phase} (h : isGen i = true → ph ≠ .idle) (newP : Byte) :
    phaseAfter .host i newP ph = ph := by
  cases ph with
  | idle => exact if_neg fun hg => h hg rfl
  | _ => rfl

/-- Settles O38, by the cases of a step. -/
theorem phaseTransitions : Obligations.PhaseTransitions := by
  unfold Obligations.PhaseTransitions
  intro s t h
  rcases step_cases s with ⟨ha, e⟩ | ⟨ha, hp, e⟩ | ⟨ha, hp, e⟩ | ⟨ha, hp, e⟩ | ⟨ha, hg, hp, e⟩ | ⟨ha, hi, hp, e⟩ |
    ⟨ha, hg, st, d, e⟩ <;> rw [e] at h <;> cases h <;> rw [ha]
  · rfl
  · show s.phase = _
    rcases hp with hp | hp <;> rw [hp] <;> rfl
  · exact (phaseAfter_seq_of_stepEnabled hp _ _).symm
  · rw [hp]; rfl
  · rw [hp]; exact (if_pos hg).symm
  · rw [hi]; exact (phaseAfter_host_of_not_start (by simp [itemInstr, isGen]) _).symm
  · exact (phaseAfter_host_of_not_start hg _).symm

/-! ### Runs that count the turns of SEQ (R80, log 17) -/

theorem exists_step_next (s : State) : ∃ t, step s = .next t := by
  rcases step_cases s with ⟨-, e⟩ | ⟨-, -, e⟩ | ⟨-, -, e⟩ | ⟨-, -, e⟩ | ⟨-, -, -, e⟩ | ⟨-, -, -, e⟩ | ⟨-, -, _, _, e⟩ <;>
    exact ⟨_, e⟩

/-- Listed turns without a reset run to a state, and what a turn of SEQ takes from `n` to `n + 1` and a turn of HOST keeps
holds there of the number of SEQ's turns. -/
theorem exists_run_counting {P : Nat → State → Prop}
    (hseq : ∀ n s t, nextAgent s = .seq → step s = .next t → P n s → P (n + 1) t)
    (hhost : ∀ n s t, nextAgent s = .host → step s = .next t → P n s → P n t)
    {n : Nat} {s : State} {l rest : List Agent} (hl : s.turns = l ++ rest) (hn : Agent.reset ∉ l) (hs : P n s) :
    ∃ t, Host.Core.run Sys2Proof.core l.length s = .next t ∧ P (n + l.count .seq) t := by
  induction l generalizing n s with
  | nil => exact ⟨s, rfl, hs⟩
  | cons a l ih =>
    obtain ⟨u, hu⟩ := exists_step_next s
    obtain ⟨ha, hlu⟩ := step_turns s u a (l ++ rest) hl hu
    rw [List.length_cons, run_succ_of_step _ s u hu]
    have hn' := List.not_mem_of_not_mem_cons hn
    cases a with
    | seq =>
      rw [List.count_cons_self, ← Nat.succ_add_eq_add_succ]
      exact ih hlu hn' (hseq n s u ha hu hs)
    | host =>
      rw [List.count_cons_of_ne (by decide)]
      exact ih hlu hn' (hhost n s u ha hu hs)
    | reset => exact absurd List.mem_cons_self hn

/-! ### The length of a generation (R77, R80) -/

/-- The phase after `k` turns of SEQ from ARMED. -/
def generationPhase (k : Nat) : Phase :=
  if k = 0 then .armed else if k ≤ 254 then .cycling else if k = 255 then .fixup else .complete

theorem generationPhase_armed_or_cycling {k : Nat} (hk : k ≤ 254) :
    generationPhase k = .armed ∨ generationPhase k = .cycling := by
  unfold generationPhase; split_ifs <;> simp

theorem generationPhase_eq_complete {k : Nat} (hk : 256 ≤ k) : generationPhase k = .complete := by
  simp (disch := omega) only [generationPhase, if_neg]

theorem generationPhase_ne_idle (k : Nat) : generationPhase k ≠ .idle := by
  unfold generationPhase; split_ifs <;> simp

/-- R78 along a generation: as long as STEP is enabled the new `p` is `3^(k+1)`, which is `ONE` for `k = 254` only. -/
theorem phaseAfter_generationPhase {k : Nat} {newP : Byte} (hnew : k ≤ 254 → newP = walkP (k + 1)) (i : Instr) :
    phaseAfter .seq i newP (generationPhase k) = generationPhase (k + 1) := by
  rcases Nat.lt_trichotomy k 255 with hk | rfl | hk
  · rw [phaseAfter_seq_of_stepEnabled (generationPhase_armed_or_cycling (by omega)), hnew (by omega)]
    by_cases hlast : k = 254
    · subst hlast
      exact if_pos walkP_255
    · rw [if_neg (walkP_ne_one (by omega) (by omega))]
      simp (disch := omega) only [generationPhase, if_neg, if_pos]
  · rfl
  · rw [generationPhase_eq_complete hk, generationPhase_eq_complete (by omega)]
    rfl

/-- A generation with a conforming collaborator after `k` turns of SEQ from ARMED. -/
structure GenerationAt (k : Nat) (s : State) : Prop where
  conforming : gfConforming s.gf
  walk : Walk s
  phase : s.phase = generationPhase k
  cursors : k ≤ 255 → s.p = walkP k ∧ s.q = walkQ k

namespace GenerationAt

variable {k : Nat} {s t : State}

theorem of_armed (hgf : gfConforming s.gf) (hw : Walk s) (hp : s.phase = .armed) : GenerationAt 0 s := by
  refine ⟨hgf, hw, hp, fun _ => ?_⟩
  unfold Walk at hw
  rw [hp] at hw
  obtain ⟨hp1, hq1, -⟩ := hw
  exact ⟨hp1, hq1⟩

theorem step_seq (hs : GenerationAt k s) (ha : nextAgent s = .seq) (h : step s = .next t) : GenerationAt (k + 1) t := by
  obtain ⟨hmul3, hginv⟩ := hs.conforming
  have hnew (hk : k ≤ 254) : gfMulBy3 s.gf s.p = walkP (k + 1) := by
    rw [hmul3, (hs.cursors (by omega)).1, walkP]
  refine ⟨(step_gf_aff h).1 ▸ hs.conforming, stepKeepsTheWalk s t hs.conforming hs.walk h, ?_, fun hk => ?_⟩
  · rw [phaseTransitions s t h, ha, hs.phase, phaseAfter_generationPhase hnew]
  · have hk' : k ≤ 254 := by omega
    rw [step_of_stepEnabled ha (hs.phase ▸ generationPhase_armed_or_cycling hk')] at h
    cases h
    refine ⟨hnew hk', ?_⟩
    show gfMul s.gf s.q constGinv = _
    rw [hginv, (hs.cursors (by omega)).2, walkQ]

theorem step_host (hs : GenerationAt k s) (ha : nextAgent s = .host) (h : step s = .next t) : GenerationAt k t := by
  have hb := step_block_of_host ha (hs.phase ▸ generationPhase_ne_idle k) h
  refine ⟨(step_gf_aff h).1 ▸ hs.conforming, stepKeepsTheWalk s t hs.conforming hs.walk h, ?_, ?_⟩ <;> rw [hb]
  · exact hs.phase
  · exact hs.cursors

end GenerationAt

/-- Settles O55, by counting the turns of SEQ. -/
theorem generationTakes256Steps : Obligations.GenerationTakes256Steps := by
  unfold Obligations.GenerationTakes256Steps
  intro s l rest hgf hw hp hl hn
  obtain ⟨t, hrun, ht⟩ := exists_run_counting (fun _ _ _ ha h hs => hs.step_seq ha h) (fun _ _ _ ha h hs => hs.step_host ha h)
    hl hn (GenerationAt.of_armed hgf hw hp)
  rw [Nat.zero_add] at ht
  exact ⟨t, hrun, ht.walk, ht.phase, ht.cursors⟩

/-! ### A collaborator that is the identity (R84) -/

/-- A STEP whose collaborator answers 0x01 twice records that byte with its transform, and the loop ends. -/
theorem exists_step_of_gf_eq_one {s : State} (ha : nextAgent s = .seq) (hp : s.phase = .armed ∨ s.phase = .cycling)
    (hmul3 : gfMulBy3 s.gf s.p = 0x01) (hmul : gfMul s.gf s.q 0xF6 = 0x01) :
    ∃ t, step s = .next t ∧ t.phase = .fixup ∧ t.sbox = writeTable s.sbox 0x01 0x7C ∧
      t.sboxInverse = writeTable s.sboxInverse 0x7C 0x01 := by
  have haff : affine 0x01 = 0x7C := by decide
  refine ⟨_, step_of_stepEnabled ha hp, ?_⟩
  simp only [step_parts, takeTurn_gf, takeTurn_p, takeTurn_q, takeTurn_sbox, takeTurn_sboxInverse, hmul3, constGinv, hmul, haff]
  exact ⟨if_pos rfl, trivial, trivial⟩

/-- Settles O58: the STEP of the first turn finds `p` back at 0x01, and the second turn is FIXZERO. -/
theorem wrongCollaboratorMayEndEarly : Obligations.WrongCollaboratorMayEndEarly := by
  unfold Obligations.WrongCollaboratorMayEndEarly
  intro s rest hmul3 hmul hp hp1 hq1 hsb hsi hl
  obtain ⟨u, hu, hpu, hsbu, hsiu⟩ := exists_step_of_gf_eq_one (nextAgent_of_turns hl) (.inl hp)
    ((hmul3 s.p).trans hp1) ((hmul s.q).trans hq1)
  have ht : step u = .next (opFixzero (takeTurn u)) := step_of_fixup (nextAgent_of_turns (step_turns s u _ _ hl hu).2) hpu
  have hsbox (x : Byte) : readTable (opFixzero (takeTurn u)).sbox x =
      if x = 0x00 then some 0x63 else if x = 0x01 then some 0x7C else none := by
    rw [opFixzero_sbox, takeTurn_sbox, hsbu, hsb, readTable_writeTable, readTable_writeTable, readTable_nil, constZero, constFix]
  have hinv (x : Byte) : readTable (opFixzero (takeTurn u)).sboxInverse x =
      if x = 0x63 then some 0x00 else if x = 0x7C then some 0x01 else none := by
    rw [opFixzero_sboxInverse, takeTurn_sboxInverse, hsiu, hsi, readTable_writeTable, readTable_writeTable, readTable_nil,
      constZero, constFix]
  refine ⟨_, (run_succ_of_step 1 s u hu).trans (run_succ_of_step 0 u _ ht), rfl, hsbox _, hsbox _, hinv _, hinv _,
    fun x h0 h1 => ?_, fun x h0 h1 => ?_, fun x => ⟨_, exec_rds_of_complete rfl x⟩, fun x => ⟨_, exec_rdi_of_complete rfl x⟩⟩
  · rw [hsbox, if_neg h0, if_neg h1]
  · rw [hinv, if_neg h0, if_neg h1]

end Sys2Proof.Machine
end

section
/-! PROOFS. The affine transform (42_affine_transform R85 to R87, R89). Rotation is additive and rotations add up modulo 8, so the
transform and its inverse are sums of rotations of the same byte. -/

namespace Sys2Proof.Machine

/-! ### Circular rotation -/

theorem rotl8_eq_rotateLeft (v : Byte) {n : Nat} (hn : n < 8) : rotl8 v n = v.rotateLeft n :=
  (BitVec.rotateLeft_eq_rotateLeftAux_of_lt hn).symm

theorem getLsbD_rotl8 (v : Byte) {n i : Nat} (hn : n < 8) (hi : i < 8) :
    (rotl8 v n).getLsbD i = v.getLsbD ((i + 8 - n) % 8) := by
  rw [rotl8_eq_rotateLeft v hn, BitVec.getLsbD_rotateLeft, Nat.mod_eq_of_lt hn]
  by_cases hin : i < n
  · rw [decide_eq_true hin, cond_true, show 8 - n + i = (i + 8 - n) % 8 by omega]
  · rw [decide_eq_false hin, cond_false, decide_eq_true hi, Bool.true_and, show i - n = (i + 8 - n) % 8 by omega]

/-- Settles O26. -/
theorem rotationMovesBits : Obligations.RotationMovesBits := by
  unfold Obligations.RotationMovesBits
  exact fun v n i _ hn hi => getLsbD_rotl8 v (by omega) hi

theorem rotl8_zero (v : Byte) : rotl8 v 0 = v := by
  refine BitVec.eq_of_getLsbD_eq fun i hi => ?_
  rw [getLsbD_rotl8 v (by decide) hi, Nat.sub_zero, Nat.add_mod_right, Nat.mod_eq_of_lt hi]

theorem rotl8_xor (v w : Byte) {n : Nat} (hn : n < 8) : rotl8 (v ^^^ w) n = rotl8 v n ^^^ rotl8 w n := by
  refine BitVec.eq_of_getLsbD_eq fun i hi => ?_
  simp only [BitVec.getLsbD_xor, getLsbD_rotl8 _ hn hi]

theorem rotl8_rotl8 (v : Byte) {m n : Nat} (hm : m < 8) (hn : n < 8) : rotl8 (rotl8 v m) n = rotl8 v ((m + n) % 8) := by
  refine BitVec.eq_of_getLsbD_eq fun i hi => ?_
  rw [getLsbD_rotl8 _ hn hi, getLsbD_rotl8 _ hm (by omega), getLsbD_rotl8 _ (by omega) hi]
  congr 1
  omega

/-! ### The affine transform as a sum of rotations -/

theorem affine_eq_rotateLeft (v : Byte) :
    affine v = v ^^^ v.rotateLeft 1 ^^^ v.rotateLeft 2 ^^^ v.rotateLeft 3 ^^^ v.rotateLeft 4 ^^^ 0x63#8 := by
  simp (disch := decide) only [affine, affineConstant, rotl8_eq_rotateLeft, BitVec.ofNat_eq_ofNat]

/-- Settles O23. -/
theorem affPutsOutTheTransform : Obligations.AffPutsOutTheTransform := by
  unfold Obligations.AffPutsOutTheTransform
  intro s
  have haff : exec .aff s = .next { s with aff := some (affine s.q) } := rfl
  rw [haff, affine_eq_rotateLeft]

/-- Settles O27: a rotation by `n` to the left contributes the bit `8 - n` places above. -/
theorem affineBitForm : Obligations.AffineBitForm := by
  unfold Obligations.AffineBitForm
  intro v i hi
  simp (disch := omega) only [affine, affineConstant, BitVec.ofNat_eq_ofNat, BitVec.getLsbD_xor, getLsbD_rotl8,
    Nat.add_sub_assoc, Nat.reduceSub]
  simp only [Bool.xor_assoc, Bool.xor_comm, Bool.xor_left_comm]

theorem affine_xor_affine (v w : Byte) : affine v ^^^ affine w = affine (v ^^^ w) ^^^ 0x63 := by
  simp (disch := decide) only [affine, affineConstant, rotl8_xor]
  ac_rfl

theorem affine_eq_63_iff (v : Byte) : affine v = 0x63 ↔ v = 0x00 := by
  rw [show (0x63 : Byte) = affine 0x00 by decide, affine_injective.eq_iff]

/-- R89: in the sum of the three rotations every rotation of `v` but `v` itself occurs twice, and so the others cancel. -/
theorem rotations_affine (v : Byte) :
    rotl8 (affine v) 1 ^^^ rotl8 (affine v) 3 ^^^ rotl8 (affine v) 6 ^^^ 0x05 = v := by
  have hconst : rotl8 affineConstant 1 ^^^ rotl8 affineConstant 3 ^^^ rotl8 affineConstant 6 ^^^ 0x05 = 0#8 := by decide
  simp (disch := decide) only [affine, rotl8_xor, rotl8_rotl8, Nat.reduceAdd, Nat.reduceMod, rotl8_zero]
  calc _ = v ^^^ (rotl8 v 1 ^^^ rotl8 v 1) ^^^ (rotl8 v 2 ^^^ rotl8 v 2) ^^^ (rotl8 v 3 ^^^ rotl8 v 3) ^^^
          (rotl8 v 4 ^^^ rotl8 v 4) ^^^ (rotl8 v 5 ^^^ rotl8 v 5) ^^^ (rotl8 v 6 ^^^ rotl8 v 6) ^^^
          (rotl8 v 7 ^^^ rotl8 v 7) ^^^
          (rotl8 affineConstant 1 ^^^ rotl8 affineConstant 3 ^^^ rotl8 affineConstant 6 ^^^ 0x05) := by ac_rfl
    _ = v := by simp only [BitVec.xor_self, BitVec.xor_zero, hconst]

/-- Settles O28: the inverse of item 4 by cancelling rotations, the bijection from the order of the transform. -/
theorem affineLaws : Obligations.AffineLaws := by
  unfold Obligations.AffineLaws
  exact ⟨fun _ _ h => affine_injective h, Finite.surjective_of_injective affine_injective, affine_eq_63_iff,
    affine_xor_affine, rotations_affine⟩

end Sys2Proof.Machine
end

section
/-! PROOFS. The table recorder (43_table_recorder R93 to R95, R98, R99): a pair is recorded both ways, so each table undoes the
other at every moment of a generation, and the guarantees of the finished tables follow from that and from their being full. -/

namespace Sys2Proof.Machine

/-! ### The two operations that record -/

theorem decodeSeq_eq_fixzero_iff (sel : Sel) : decodeSeq sel = .ok .fixzero ↔ sel = 0b010#3 := by
  unfold decodeSeq
  split_ifs with hstep hfix
  · refine iff_of_false (by simp) ?_
    rintro rfl
    exact absurd hstep (by decide)
  · exact iff_of_true rfl hfix
  · exact iff_of_false (by simp) hfix
  · exact iff_of_false (by simp) hfix

/-- Settles O18: FIXZERO's selector is the code of FIXUP, where its condition holds. -/
theorem fixzeroWritesTheZeroPair : Obligations.FixzeroWritesTheZeroPair := by
  unfold Obligations.FixzeroWritesTheZeroPair
  refine ⟨decodeSeq_eq_fixzero_iff, fun ph => ?_, fun s hp => ?_⟩
  · rw [← fixzeroEnabled_iff, fixzeroEnabled, beq_iff_eq]
  · exact execFixzero_next s hp

/-- R93, R88: the operand of REC is the value of AFF that stands, else the transform of `q`. -/
theorem affOperand_of_some {s : State} {a : Byte} (h : s.aff = some a) : affOperand s = a := by
  rw [affOperand, h, Option.getD_some]

theorem affOperand_of_none {s : State} (h : s.aff = none) : affOperand s = affine s.q := by
  rw [affOperand, h, Option.getD_none]

/-- Settles O24: REC records its operand, and empties `aff`, which changes nothing where it is empty. -/
theorem recRecordsBothWays : Obligations.RecRecordsBothWays := by
  unfold Obligations.RecRecordsBothWays
  have hrec (s : State) : exec .record s = .next { s with
      sbox := writeTable s.sbox s.p (affOperand s)
      sboxInverse := writeTable s.sboxInverse (affOperand s) s.p
      aff := none } := rfl
  refine ⟨fun s a ha => ?_, fun s ha => ?_⟩
  · rw [hrec, affOperand_of_some ha]
  · rw [hrec, affOperand_of_none ha, ← ha]

/-! ### Each table undoes the other (R94) -/

/-- R94: an entry of one table holds a byte exactly where the entry of the other at that byte leads back. -/
def MutuallyInverse (sb si : Table) : Prop := ∀ x y : Byte, readTable sb x = some y ↔ readTable si y = some x

namespace MutuallyInverse

variable {sb si : Table} (h : MutuallyInverse sb si)
include h

theorem symm : MutuallyInverse si sb := fun x y => (h y x).symm

/-- R93: recording a pair both ways keeps the tables inverse, where neither of its two entries held a value. -/
theorem record {x a : Byte} (hx : readTable sb x = none) (ha : readTable si a = none) :
    MutuallyInverse (writeTable sb x a) (writeTable si a x) := by
  intro u v
  rw [readTable_writeTable, readTable_writeTable]
  by_cases hu : u = x <;> by_cases hv : v = a
  · rw [if_pos hu, if_pos hv, hu, hv]
    exact iff_of_true rfl rfl
  · have hback : readTable si v ≠ some x := by rw [Ne, ← h, hx]; simp
    rw [if_pos hu, if_neg hv, hu, Option.some_inj]
    exact iff_of_false (Ne.symm hv) hback
  · have hback : readTable sb u ≠ some a := by rw [Ne, h, ha]; simp
    rw [if_neg hu, if_pos hv, hv, Option.some_inj]
    exact iff_of_false hback (Ne.symm hu)
  · rw [if_neg hu, if_neg hv, h]

/-- A byte at which the other table holds a value is the value of exactly one entry. -/
theorem exists_unique_entry {y : Byte} (hfull : ∃ x, readTable si y = some x) :
    ∃ x, readTable sb x = some y ∧ ∀ z, readTable sb z = some y → z = x := by
  obtain ⟨x, hx⟩ := hfull
  exact ⟨x, (h x y).2 hx, fun z hz => Option.some_inj.1 (((h z y).1 hz).symm.trans hx)⟩

end MutuallyInverse

theorem mutuallyInverse_walk {k : Nat} (hk : k ≤ 255) : MutuallyInverse (walkSbox k) (walkInverse k) := by
  intro x y
  rw [readTable_walkSbox hk, readTable_walkInverse hk]
  simp only [and_comm]

/-- FIXZERO records the zero pair at the two entries that the walk leaves out. -/
theorem mutuallyInverse_final : MutuallyInverse finalSbox finalInverse :=
  (mutuallyInverse_walk le_rfl).record ((readTable_walkSbox_eq_none _).2 rfl) ((readTable_walkInverse_eq_none _).2 rfl)

/-- R17: in COMPLETE the tables are the finished ones. -/
theorem walk_tables_of_complete {s : State} (hw : Walk s) (hp : s.phase = .complete) :
    s.sbox = finalSbox ∧ s.sboxInverse = finalInverse := by
  unfold Walk at hw
  rw [hp] at hw
  obtain ⟨-, -, htables⟩ := hw
  exact htables

/-- R17: before COMPLETE the tables hold what the first `k` STEPs recorded. -/
theorem walk_tables_of_not_complete {s : State} (hw : Walk s) (hp : s.phase ≠ .complete) :
    ∃ k ≤ 255, s.sbox = walkSbox k ∧ s.sboxInverse = walkInverse k := by
  unfold Walk at hw
  cases hph : s.phase <;> rw [hph] at hw
  case idle => exact ⟨0, by omega, hw⟩
  case armed =>
    obtain ⟨-, -, htables⟩ := hw
    exact ⟨0, by omega, htables⟩
  case cycling =>
    obtain ⟨k, -, hk, -, -, htables⟩ := hw
    exact ⟨k, by omega, htables⟩
  case fixup =>
    obtain ⟨-, -, htables⟩ := hw
    exact ⟨255, le_rfl, htables⟩
  case complete => exact absurd hph hp

/-- Settles O50: the tables hold the pairs of the first `k` STEPs, and in COMPLETE the zero pair besides. -/
theorem recorderInvariant : Obligations.RecorderInvariant := by
  unfold Obligations.RecorderInvariant
  intro s hw
  by_cases hp : s.phase = .complete
  · obtain ⟨hsb, hsi⟩ := walk_tables_of_complete hw hp
    rw [hsb, hsi]
    exact mutuallyInverse_final
  · obtain ⟨k, hk, hsb, hsi⟩ := walk_tables_of_not_complete hw hp
    rw [hsb, hsi]
    exact mutuallyInverse_walk hk

/-! ### The finished tables (R98) -/

/-- R98 item 5: every entry is the printed one. -/
theorem readTable_finalSbox_eq (x : Byte) : readTable finalSbox x = specSbox[x.toNat]? := by
  obtain ⟨v, hv, hspec⟩ := readTable_finalSbox x
  rw [hv, hspec]

theorem readTable_finalInverse_eq (x : Byte) : readTable finalInverse x = specSboxInverse[x.toNat]? := by
  obtain ⟨v, hv, hspec⟩ := readTable_finalInverse x
  rw [hv, hspec]

/-- R98 item 3: a byte with an inverse is a power `3^j`, whose inverse is `3^(-j)`, and the `j`th STEP recorded `AFF(3^(-j))`. -/
theorem readTable_finalSbox_of_inverse {x y : Byte} (hxy : refMul x y = constOne) :
    readTable finalSbox x = some (affine y) := by
  have hx : x ≠ constZero := by
    rintro rfl
    rw [constZero, zero_refMul] at hxy
    exact absurd hxy (by decide)
  obtain ⟨j, h1, hj, rfl⟩ := (exists_walkP_iff x).2 hx
  have hy : y = walkQ j := refMul_inverse_unique (refMul_walkP_walkQ j) hxy
  rw [finalSbox, readTable_writeTable, if_neg hx, hy]
  exact (readTable_walkSbox le_rfl _ _).2 ⟨j, h1, hj, rfl, rfl⟩

/-- Settles O52: both tables are full and undo each other, which gives items 1 and 2; the others are facts about what was
recorded. -/
theorem finishedTables : Obligations.FinishedTables := by
  unfold Obligations.FinishedTables
  intro s hw hp
  obtain ⟨hsb, hsi⟩ := walk_tables_of_complete hw hp
  have hfullSbox (x : Byte) : ∃ v, readTable finalSbox x = some v := (readTable_finalSbox x).imp fun _ => And.left
  have hfullInverse (x : Byte) : ∃ v, readTable finalInverse x = some v := (readTable_finalInverse x).imp fun _ => And.left
  rw [hsb, hsi]
  refine ⟨fun y => ?bijective, fun x => ?inverse, ?zero, fun x y => readTable_finalSbox_of_inverse,
    fun t ht htp => walk_tables_of_complete ht htp, fun x => ⟨readTable_finalSbox_eq x, readTable_finalInverse_eq x⟩⟩
  case bijective =>
    exact ⟨mutuallyInverse_final.exists_unique_entry (hfullInverse y),
      mutuallyInverse_final.symm.exists_unique_entry (hfullSbox y)⟩
  case inverse =>
    obtain ⟨y, hy⟩ := hfullSbox x
    obtain ⟨z, hz⟩ := hfullInverse x
    exact ⟨y, z, hy, (mutuallyInverse_final x y).1 hy, hz, (mutuallyInverse_final z x).2 hz⟩
  case zero => exact readTable_finalSbox_eq 0x00

/-! ### The reference values (R99) -/

/-- R106: in COMPLETE RDS answers the printed entry. -/
theorem exec_rds_of_finished {s : State} (hw : Walk s) (hp : s.phase = .complete) {x v : Byte}
    (hv : specSbox[x.toNat]? = some v) : exec (.rds x) s = .next (respond s .ok v) := by
  obtain ⟨hsb, -⟩ := walk_tables_of_complete hw hp
  rw [exec_rds_of_complete hp, publishedSbox, hsb, readTable_finalSbox_eq, hv, Option.getD_some]

/-- R107: so does RDI. -/
theorem exec_rdi_of_finished {s : State} (hw : Walk s) (hp : s.phase = .complete) {x v : Byte}
    (hv : specSboxInverse[x.toNat]? = some v) : exec (.rdi x) s = .next (respond s .ok v) := by
  obtain ⟨-, hsi⟩ := walk_tables_of_complete hw hp
  rw [exec_rdi_of_complete hp, publishedSboxInverse, hsi, readTable_finalInverse_eq, hv, Option.getD_some]

/-- Settles O53: the six values stand in the printed tables, and the cursors of the three STEPs are evaluated. -/
theorem referenceValues : Obligations.ReferenceValues := by
  unfold Obligations.ReferenceValues
  refine ⟨fun s hw hp => ⟨?_, ?_, ?_, ?_, ?_, ?_⟩, walkP_255, by rw [walkQ_255]; decide, by decide +kernel⟩
  · exact exec_rds_of_finished hw hp (v := 0x63) rfl
  · exact exec_rds_of_finished hw hp (v := 0x7C) rfl
  · exact exec_rds_of_finished hw hp (v := 0xED) rfl
  · exact exec_rds_of_finished hw hp (v := 0x16) rfl
  · exact exec_rdi_of_finished hw hp (v := 0x00) rfl
  · exact exec_rdi_of_finished hw hp (v := 0x53) rfl

end Sys2Proof.Machine
end

section
/-! PROOFS. The host commands (44_host_commands R103 to R113): what each command answers in each phase, and that no command but
the GEN that starts a generation writes the block. -/

namespace Sys2Proof.Machine

/-! ### Which words are which command (R112) -/

/-- Settles O2: from the two laws of the decoder. -/
theorem everyWordIsOneOperation : Obligations.EveryWordIsOneOperation := by
  unfold Obligations.EveryWordIsOneOperation
  exact fun w => ⟨wellFormed_decodeCmd w, encode_decodeCmd w⟩

/-- A word with the operation code of an operation, and its `idx`, decodes to it. -/
theorem decodeCmd_of_opcOf {w : Word} {opc : Byte} {i : Instr} (ho : opcOf w = opc) (hwf : i.wellFormed = true)
    (he : encode i = some (.cmd (commandWord opc (idxOf w)))) : decodeCmd w = i :=
  decodeCmd_of_encode hwf (by rw [he, ← ho, commandWord_opcOf_idxOf])

/-- R50: a word with an operation code from 0x05 on is a reserved command. -/
theorem isReserved_decodeCmd {w : Word} (ho : 0x05 ≤ (opcOf w).toNat) : isReserved (decodeCmd w) = true := by
  rw [← commandWord_opcOf_idxOf w, decodeCmd_commandWord_of_le _ _ ho]
  exact isReserved_decodeReserved _ _

/-! ### The response words (R47, R49, R109) -/

/-- Answering the word `r` changes the word on the port and nothing else. -/
theorem respond_of_responseWord {s : State} {st : Status} {d : Byte} {r : Word} (hr : responseWord st d = r) :
    respond s st d = { s with rsp := some r } := by
  rw [respond, hr]

/-- R109: the one effect of every reserved command. -/
theorem exec_of_reserved {i : Instr} (hi : isReserved i = true) (s : State) :
    exec i s = .next { s with rsp := some 0x0200 } := by
  rw [exec_reserved i s hi, respondIllegal, respond_of_responseWord (r := 0x0200) rfl]

/-- R108: STAT's answer in the phase `ph`. -/
theorem opStat_of_phase {s : State} {ph : Phase} {r : Word} (hp : s.phase = ph)
    (hr : responseWord .ok (phaseByte ph) = r) : opStat s = { s with rsp := some r } :=
  respond_of_responseWord (by rw [hp, hr])

/-! ### NOP, STAT, GEN and the reserved commands (R104, R105, R108, R109) -/

/-- Settles O6. -/
theorem nopAnswersZero : Obligations.NopAnswersZero := by
  unfold Obligations.NopAnswersZero
  exact ⟨fun w ho => decodeCmd_of_opcOf ho rfl rfl, fun idx s => congrArg Host.Outcome.next (respond_of_responseWord rfl)⟩

/-- Settles O10: the code of each phase. -/
theorem statAnswersPhase : Obligations.StatAnswersPhase := by
  unfold Obligations.StatAnswersPhase
  refine ⟨fun w ho => decodeCmd_of_opcOf ho rfl rfl, fun idx s => congrArg Host.Outcome.next ?_⟩
  cases hp : s.phase <;> exact opStat_of_phase hp rfl

/-- Settles O7: outside IDLE a GEN is a STAT; in IDLE it is a STAT after the start. -/
theorem genStartsOnce : Obligations.GenStartsOnce := by
  unfold Obligations.GenStartsOnce
  refine ⟨fun w ho => decodeCmd_of_opcOf ho rfl rfl, fun idx s => ?_⟩
  have hstart (h : s.phase = .idle) : exec (.gen idx) s = .next (opStat { opInit s with phase := .armed }) := if_pos h
  have hstat (h : s.phase ≠ .idle) : exec (.gen idx) s = .next (opStat s) := if_neg h
  cases hp : s.phase with
  | idle => exact (hstart hp).trans (congrArg Host.Outcome.next (opStat_of_phase (ph := .armed) rfl rfl))
  | armed | cycling | fixup | complete => exact (hstat (by simp [hp])).trans (congrArg Host.Outcome.next (opStat_of_phase hp rfl))

/-- Settles O11: the seven rows have one effect, and a code from 0x05 on is in one of them. -/
theorem reservedAnswersIllegal : Obligations.ReservedAnswersIllegal := by
  unfold Obligations.ReservedAnswersIllegal
  refine ⟨fun w s ho => exec_of_reserved (isReserved_decodeCmd ho) s, fun opc idx s => ⟨?_, ?_, ?_, ?_, ?_, ?_, ?_⟩⟩ <;>
    exact exec_of_reserved rfl s

/-! ### RDS and RDI (R106, R107) -/

theorem exec_rds_of_not_complete {s : State} (hp : s.phase ≠ .complete) (idx : Byte) :
    exec (.rds idx) s = .next { s with rsp := some 0x0100 } :=
  (if_neg hp).trans (congrArg Host.Outcome.next (respond_of_responseWord rfl))

theorem exec_rdi_of_not_complete {s : State} (hp : s.phase ≠ .complete) (idx : Byte) :
    exec (.rdi idx) s = .next { s with rsp := some 0x0100 } :=
  (if_neg hp).trans (congrArg Host.Outcome.next (respond_of_responseWord rfl))

theorem publishedSbox_of_readTable {s : State} {idx v : Byte} (h : readTable s.sbox idx = some v) :
    publishedSbox s idx = v := by
  rw [publishedSbox, h, Option.getD_some]

theorem publishedSboxInverse_of_readTable {s : State} {idx v : Byte} (h : readTable s.sboxInverse idx = some v) :
    publishedSboxInverse s idx = v := by
  rw [publishedSboxInverse, h, Option.getD_some]

/-- Settles O8: the published byte, which is the entry where one is written. -/
theorem rdsReadsSbox : Obligations.RdsReadsSbox := by
  unfold Obligations.RdsReadsSbox
  refine ⟨fun w ho => decodeCmd_of_opcOf ho rfl rfl, fun idx s => ⟨fun hp => exec_rds_of_not_complete hp idx,
    fun hp v hv => ?_, fun hp => ⟨_, exec_rds_of_complete hp idx⟩⟩⟩
  rw [exec_rds_of_complete hp, publishedSbox_of_readTable hv]
  rfl

/-- Settles O9: the same of the other table. -/
theorem rdiReadsSboxInverse : Obligations.RdiReadsSboxInverse := by
  unfold Obligations.RdiReadsSboxInverse
  refine ⟨fun w ho => decodeCmd_of_opcOf ho rfl rfl, fun idx s => ⟨fun hp => exec_rdi_of_not_complete hp idx,
    fun hp v hv => ?_, fun hp => ⟨_, exec_rdi_of_complete hp idx⟩⟩⟩
  rw [exec_rdi_of_complete hp, publishedSboxInverse_of_readTable hv]
  rfl

/-! ### The two reads of a finished state (R113) -/

theorem respond_inj {s : State} {st : Status} {d d' : Byte} : respond s st d = respond s st d' ↔ d = d' := by
  refine ⟨fun h => ?_, fun h => by rw [h]⟩
  have hrsp : responseWord st d = responseWord st d' := Option.some_inj.1 (congrArg (·.rsp) h)
  rw [← dataOf_responseWord st d, hrsp, dataOf_responseWord]

/-- Where an entry is written, a published read answers its byte and no other. -/
theorem exec_rds_eq_iff {s : State} (hp : s.phase = .complete) {x : Byte} (hx : ∃ v, readTable s.sbox x = some v) (y : Byte) :
    exec (.rds x) s = .next { s with rsp := some (0x00#8 ++ y) } ↔ readTable s.sbox x = some y := by
  obtain ⟨v, hv⟩ := hx
  rw [exec_rds_of_complete hp, publishedSbox_of_readTable hv, hv, Option.some_inj, Host.Outcome.next.injEq]
  exact respond_inj

theorem exec_rdi_eq_iff {s : State} (hp : s.phase = .complete) {x : Byte} (hx : ∃ v, readTable s.sboxInverse x = some v)
    (y : Byte) :
    exec (.rdi x) s = .next { s with rsp := some (0x00#8 ++ y) } ↔ readTable s.sboxInverse x = some y := by
  obtain ⟨v, hv⟩ := hx
  rw [exec_rdi_of_complete hp, publishedSboxInverse_of_readTable hv, hv, Option.some_inj, Host.Outcome.next.injEq]
  exact respond_inj

/-- R94: two entries of one table with the same byte are the one that the other table leads back to. -/
theorem MutuallyInverse.entry_inj {sb si : Table} (h : MutuallyInverse sb si) {x x' y : Byte}
    (hx : readTable sb x = some y) (hx' : readTable sb x' = some y) : x = x' :=
  Option.some_inj.1 (((h x y).1 hx).symm.trans ((h x' y).1 hx'))

/-- Settles O54: the reads answer the entries of the finished tables, which are full and undo each other. -/
theorem readsInvertEachOther : Obligations.ReadsInvertEachOther := by
  unfold Obligations.ReadsInvertEachOther
  intro s hw hp
  obtain ⟨hsb, hsi⟩ := walk_tables_of_complete hw hp
  have hrds (x y : Byte) : exec (.rds x) s = .next { s with rsp := some (0x00#8 ++ y) } ↔
      readTable finalSbox x = some y := by
    rw [← hsb]
    exact exec_rds_eq_iff hp (hsb ▸ (readTable_finalSbox x).imp fun _ => And.left) y
  have hrdi (x y : Byte) : exec (.rdi x) s = .next { s with rsp := some (0x00#8 ++ y) } ↔
      readTable finalInverse x = some y := by
    rw [← hsi]
    exact exec_rdi_eq_iff hp (hsi ▸ (readTable_finalInverse x).imp fun _ => And.left) y
  simp only [hrds, hrdi]
  exact ⟨mutuallyInverse_final, fun _ _ _ => mutuallyInverse_final.entry_inj,
    fun _ _ _ => mutuallyInverse_final.symm.entry_inj⟩

/-! ### The whole response function (R112) -/

/-- What the rule of a read (R106, R107) says of the word it answers: a refusal before COMPLETE, and in COMPLETE the status OK
with the entry's byte where one is written. -/
theorem exists_response_of_read {i : Instr} {s : State} {t : Table} {idx : Byte}
    (hrefused : s.phase ≠ .complete → exec i s = .next { s with rsp := some 0x0100 })
    (hwritten : s.phase = .complete → ∀ v, readTable t idx = some v → exec i s = .next { s with rsp := some (0x00#8 ++ v) })
    (hok : s.phase = .complete → ∃ v : Byte, exec i s = .next { s with rsp := some (0x00#8 ++ v) }) :
    ∃ r : Word, exec i s = .next { s with rsp := some r } ∧
      match s.phase with
      | .complete => statusOf r = 0x00 ∧ ∀ v, readTable t idx = some v → r = 0x00#8 ++ v
      | _ => r = 0x0100 := by
  cases hp : s.phase with
  | complete =>
    obtain ⟨b, hb⟩ := hok hp
    refine ⟨_, hb, statusOf_responseWord .ok b, fun v hv => ?_⟩
    have hrespond : respond s .ok b = respond s .ok v := Host.Outcome.next.inj (hb.symm.trans (hwritten hp v hv))
    rw [respond_inj.1 hrespond]
  | idle | armed | cycling | fixup => exact ⟨_, hrefused (by simp [hp]), rfl⟩

/-- Settles O12: the six rules that a word selects one of, each by what its command answers. -/
theorem wholeResponseFunction : Obligations.WholeResponseFunction := by
  unfold Obligations.WholeResponseFunction
  intro w s
  rcases decodeCmd_cases w with ⟨ho, e⟩ | ⟨ho, e⟩ | ⟨ho, e⟩ | ⟨ho, e⟩ | ⟨ho, e⟩ | ⟨ho, e⟩
  case inr.inl =>
    have hgen := genStartsOnce.2 (idxOf w) s
    rw [e, ho]
    cases hp : s.phase <;> rw [hp] at hgen <;> exact ⟨_, hgen, rfl⟩
  all_goals
    have hne : ¬(opcOf w = 0x01 ∧ s.phase = .idle) := by
      rintro ⟨h, -⟩
      rw [h] at ho
      exact absurd ho (by decide)
    simp only [if_neg hne]
  · rw [e, ho]
    exact ⟨_, nopAnswersZero.2 _ s, rfl⟩
  · obtain ⟨hrefused, hwritten, hok⟩ := rdsReadsSbox.2 (idxOf w) s
    have hread := exists_response_of_read hrefused hwritten hok
    rw [e, ho]
    cases hp : s.phase <;> rw [hp] at hread <;> exact hread
  · obtain ⟨hrefused, hwritten, hok⟩ := rdiReadsSboxInverse.2 (idxOf w) s
    have hread := exists_response_of_read hrefused hwritten hok
    rw [e, ho]
    cases hp : s.phase <;> rw [hp] at hread <;> exact hread
  · have hstat := statAnswersPhase.2 (idxOf w) s
    rw [e, ho]
    cases hp : s.phase <;> rw [hp] at hstat <;> exact ⟨_, hstat, rfl⟩
  · refine ⟨_, reservedAnswersIllegal.1 w s ho, ?_⟩
    obtain ⟨n, hn⟩ := Nat.exists_eq_add_of_le' ho
    rw [hn]
    rfl

/-! ### What a command writes (R110) -/

/-- A step of HOST leaves the block as it was or starts a generation. -/
theorem step_block_of_host_cases {s t : State} (ha : nextAgent s = .host) (h : step s = .next t) :
    t.toBlock = s.toBlock ∨
    isGen (itemInstr (nextItem s)) = true ∧ s.phase = .idle ∧
      t.toBlock = { s.toBlock with p := constOne, q := constOne, phase := .armed } := by
  rcases step_block_cases h with ⟨ha', -⟩ | e | ⟨ha', -⟩ | ⟨ha', -⟩ | ⟨-, hstart⟩
  case inr.inl => exact .inl e
  case inr.inr.inr.inr => exact .inr hstart
  all_goals cases ha.symm.trans ha'

/-- What an item is answered is one word for all values of the cursors. -/
theorem exec_itemInstr_withCursors (x : HostItem) (s : State) :
    ∃ r, ∀ p q, ∃ t, exec (itemInstr x) (withCursors s p q) = .next t ∧ t.rsp = some r := by
  cases x with
  | waitRdy =>
    refine ⟨responseWord .ok (phaseByte s.phase), fun p q => ?_⟩
    rcases execWaitrdy_cases (withCursors s p q) with ⟨-, e⟩ | ⟨-, e⟩ <;> exact ⟨_, e, rfl⟩
  | word w =>
    rw [itemInstr]
    rcases decodeCmd_cases w with ⟨-, e⟩ | ⟨-, e⟩ | ⟨-, e⟩ | ⟨-, e⟩ | ⟨-, e⟩ | ⟨-, e⟩ <;> rw [e]
    · exact ⟨_, fun p q => ⟨_, rfl, rfl⟩⟩
    · by_cases hp : s.phase = .idle
      · exact ⟨responseWord .ok (phaseByte .armed), fun p q => ⟨_, if_pos hp, rfl⟩⟩
      · exact ⟨responseWord .ok (phaseByte s.phase), fun p q => ⟨_, if_neg hp, rfl⟩⟩
    · by_cases hp : s.phase = .complete
      · exact ⟨responseWord .ok (publishedSbox s (idxOf w)),
          fun p q => ⟨_, exec_rds_of_complete (s := withCursors s p q) hp _, rfl⟩⟩
      · exact ⟨0x0100, fun p q => ⟨_, exec_rds_of_not_complete (s := withCursors s p q) hp _, rfl⟩⟩
    · by_cases hp : s.phase = .complete
      · exact ⟨responseWord .ok (publishedSboxInverse s (idxOf w)),
          fun p q => ⟨_, exec_rdi_of_complete (s := withCursors s p q) hp _, rfl⟩⟩
      · exact ⟨0x0100, fun p q => ⟨_, exec_rdi_of_not_complete (s := withCursors s p q) hp _, rfl⟩⟩
    · exact ⟨responseWord .ok (phaseByte s.phase), fun p q => ⟨_, rfl, rfl⟩⟩
    · exact ⟨0x0200, fun p q => ⟨_, exec_of_reserved (isReserved_decodeReserved _ _) _, rfl⟩⟩

/-- A step of HOST answers the same whatever bytes the cursors hold. -/
theorem step_rsp_withCursors {s t u : State} {x y : Byte} (ha : nextAgent s = .host) (ht : step s = .next t)
    (hu : step (withCursors s x y) = .next u) : u.rsp = t.rsp := by
  obtain ⟨r, hr⟩ := exec_itemInstr_withCursors (nextItem s) (hostState s)
  obtain ⟨t', ht', hrt⟩ := hr s.p s.q
  obtain ⟨u', hu', hru⟩ := hr x y
  cases ht.symm.trans ((step_of_host ha).trans ht')
  cases hu.symm.trans ((step_of_host (s := withCursors s x y) ha).trans hu')
  rw [hrt, hru]

/-- Settles O13: the frame from the cases of a step of HOST, the response from what each command reads. -/
theorem hostWritesNothingButTheStart : Obligations.HostWritesNothingButTheStart := by
  unfold Obligations.HostWritesNothingButTheStart
  intro s t ha h
  have hepoch : t.epoch = s.epoch := step_epoch (by simp [ha]) h
  have hrsp (x y : Byte) (u : State) : step { s with p := x, q := y } = .next u → u.rsp = t.rsp := step_rsp_withCursors ha h
  rcases step_block_of_host_cases ha h with hb | ⟨hg, hp, hb⟩
  · rw [hb]
    exact ⟨rfl, rfl, (step_gf_aff h).1, hepoch, .inl ⟨rfl, rfl, rfl⟩, hrsp⟩
  · rw [hb]
    exact ⟨rfl, rfl, (step_gf_aff h).1, hepoch, .inr ⟨hg, hp, rfl, rfl, rfl⟩, hrsp⟩

end Sys2Proof.Machine
end

section
/-! PROOFS. Exceptions (60_exceptions R116): the machine has none, so no turn of any agent stops it. -/

namespace Sys2Proof.Machine

/-- Settles O35: each of the seven cases of a step (`step_cases`: RESET, SEQ idle, SEQ in the phases of STEP and of FIXZERO,
and HOST's three) ends in a next state. The two refusals in the model stay out of reach because `phase` selects STEP and
FIXZERO in just the phases that enable them (R52). -/
theorem everyStepCompletes : Obligations.EveryStepCompletes := by
  unfold Obligations.EveryStepCompletes
  exact exists_step_next

end Sys2Proof.Machine
end

section
/-! PROOFS. Reset and hazards (70_reset_and_hazards R130, R132, R134, R138): what a reset event leaves, the generation after it,
and the walk that never ends. -/

namespace Sys2Proof.Machine

/-- R18: `ready` is 0 in every phase but COMPLETE. -/
theorem ready_eq_false_iff (s : State) : ready s = false ↔ s.phase ≠ .complete := by
  rw [← Bool.not_eq_true, ready_iff]

/-! ### The reset event (R130) -/

/-- Settles O32: the reset event writes over the five items of the block, and none of them says whose turn it is. -/
theorem resetEventForgets : Obligations.ResetEventForgets := by
  unfold Obligations.ResetEventForgets
  intro s ha
  refine ⟨⟨_, step_of_reset ha, rfl, (ready_eq_false_iff _).2 nofun, rfl, fun i => ⟨rfl, rfl⟩⟩, fun p q ph sb si => ?_⟩
  rw [step_of_reset ha]
  exact step_of_reset (s := { s with p := p, q := q, phase := ph, sbox := sb, sboxInverse := si }) ha

/-! ### The generation after a reset (R134) -/

/-- R105: a GEN that HOST presents in IDLE starts a generation. -/
theorem exists_step_of_gen {s : State} {idx : Byte} (ha : nextAgent s = .host) (hi : itemInstr (nextItem s) = .gen idx)
    (hp : s.phase = .idle) : ∃ t, step s = .next t ∧ t.phase = .armed := by
  rw [step_of_host ha, hi]
  exact ⟨_, if_pos hp, rfl⟩

/-- Settles O56: with no entry written the GEN of the first turn begins the walk, 256 turns of SEQ end it
(`generationTakes256Steps`), and a walk that has ended holds the printed tables (`finishedTables`). -/
theorem regenerationGivesTheSameTables : Obligations.RegenerationGivesTheSameTables := by
  unfold Obligations.RegenerationGivesTheSameTables
  intro s l rest w cs hgf hp hsb hsi hl hc ho hn hcount
  have hi : itemInstr (nextItem s) = .gen (idxOf w) := by
    rw [nextItem_of_cmds hc]
    exact genStartsOnce.1 w ho
  obtain ⟨u, hu, hpu⟩ := exists_step_of_gen (nextAgent_of_turns hl) hi hp
  have hws : Walk s := by unfold Walk; rw [hp]; exact ⟨hsb, hsi⟩
  have hwu : Walk u := stepKeepsTheWalk s u hgf hws hu
  have hgfu : gfConforming u.gf := (step_gf_aff hu).1 ▸ hgf
  obtain ⟨t, hrun, hwt, hpt, -⟩ := generationTakes256Steps u l rest hgfu hwu hpu (step_turns s u _ _ hl hu).2 hn
  have hpt' : t.phase = .complete := hpt.trans (generationPhase_eq_complete hcount)
  obtain ⟨-, -, -, -, -, htables⟩ := finishedTables t hwt hpt'
  exact ⟨t, (run_succ_of_step _ s u hu).trans hrun, hpt', htables⟩

/-! ### A collaborator that answers zero (R84, R138) -/

/-- The walk is on, with a `mulBy3` that always answers 0x00. -/
structure ZeroWalk (s : State) : Prop where
  mulBy3_eq_zero : ∀ x, gfMulBy3 s.gf x = 0x00
  phase : s.phase = .armed ∨ s.phase = .cycling

/-- A STEP finds the new `p` at 0x00, which is not `ONE`, so the loop goes on; HOST writes nothing outside IDLE. -/
theorem ZeroWalk.step {s t : State} (hs : ZeroWalk s) (ha : nextAgent s ≠ .reset) (h : Machine.step s = .next t) :
    ZeroWalk t := by
  refine ⟨(step_gf_aff h).1 ▸ hs.mulBy3_eq_zero, ?_⟩
  rcases step_block_cases h with ⟨hr, -⟩ | e | ⟨-, -, e⟩ | ⟨-, hp, -⟩ | ⟨-, -, hp, -⟩
  · exact absurd hr ha
  · rw [e]; exact hs.phase
  · rw [e, hs.mulBy3_eq_zero]; exact .inr rfl
  all_goals simpa [hp] using hs.phase

/-- Settles O57: every step but a reset keeps the walk on, where the phase is not COMPLETE. -/
theorem wrongCollaboratorMayHang : Obligations.WrongCollaboratorMayHang := by
  unfold Obligations.WrongCollaboratorMayHang
  intro s l rest hmul3 hp hl hn
  obtain ⟨t, hrun, ht⟩ := exists_run_counting (P := fun _ => ZeroWalk) (n := 0)
    (fun _ _ _ ha h hs => hs.step (by simp [ha]) h) (fun _ _ _ ha h hs => hs.step (by simp [ha]) h) hl hn ⟨hmul3, hp⟩
  have hnot : t.phase ≠ .complete := by rcases ht.phase with hp | hp <;> simp [hp]
  exact ⟨t, hrun, ht.phase, (ready_eq_false_iff t).2 hnot⟩

end Sys2Proof.Machine
end
